-- ==== Sys2Proof/Word.lean ====
section
/-! DEFINITION. The two data widths of the CORE (00_scope.md R5): bytes and 16-bit words. -/

namespace Sys2Proof

/-- A bus datum, an 8-bit register, an operand byte (00_scope.md R5). -/
abbrev Byte := BitVec 8

/-- A bus address, SP, PC, a register pair (00_scope.md R5). -/
abbrev Word := BitVec 16

end Sys2Proof
end

