-- ==== Sys2Proof/Config.lean ====
section
/-! DEFINITION. The parameters the spec leaves open (00_scope.md R5, 92_eei_decisions.md D7 to D10).
Every value the spec names is modelled: the parameters travel in `Machine.State.cfg`, so a statement
about every state holds for every choice of them (log entry 3). The parameter `BUS` is the bus state of
`Machine.State`: the memory, the rejected sites, the replies and the device requests (log entries 1, 10, 14, 17). -/

namespace Sys2Proof

/-- `STOP_MODE` (48_misc.md R256, D9). -/
inductive StopMode where
  | fault
  | skip
deriving DecidableEq, Repr

/-- `A_ROT_Z` (44_rotate_shift.md R180 to R183, D10). -/
inductive ARotZ where
  | unchanged
  | cleared
deriving DecidableEq, Repr

/-- `WAKE_MASK` (60_exceptions.md R285, D8): 0x1F, the five source bits, or 0xFF, the whole byte. -/
inductive WakeMask where
  | sources
  | whole
deriving DecidableEq, Repr

/-- The parameters of 00_scope.md R5. -/
structure Config where
  ieAddr   : Word
  ifAddr   : Word
  wakeMask : WakeMask
  stopMode : StopMode
  aRotZ    : ARotZ
deriving DecidableEq, Repr

/-- The values the spec takes (00_scope.md R5, column "value this spec takes"). -/
def Config.standard : Config :=
  { ieAddr := 0xFFFF#16, ifAddr := 0xFF0F#16, wakeMask := .sources, stopMode := .fault,
    aRotZ := .unchanged }

/-- `IE_ADDR` and `IF_ADDR` must differ (92_eei_decisions.md D7). -/
abbrev Config.Valid (c : Config) : Prop := c.ieAddr ≠ c.ifAddr

end Sys2Proof
end

