-- ==== Sys2Proof/Syntax.lean ====
section
/-! DEFINITION. The instructions: one constructor for each row of spec/opcode_table.json, 256 primary
(30_encoding.md R79) and 256 CB-prefixed (R80), and the operand fields they are made of (R72 to R76).
A register, a pair, a condition, a bit number and an RST target are part of the constructor, as they are part of
the row; an immediate (R77) is an argument. -/

namespace Sys2Proof

/-- The 8-bit register operands; field value 6 is the byte at HL, never a register (30_encoding.md R72). -/
inductive Reg8 where
  | b | c | d | e | h | l | a
deriving DecidableEq, Repr

/-- The 16-bit operands of LD, INC, DEC and ADD HL (30_encoding.md R73). -/
inductive Reg16 where
  | bc | de | hl | sp
deriving DecidableEq, Repr

/-- The 16-bit operands of PUSH and POP (30_encoding.md R73). -/
inductive Reg16S where
  | bc | de | hl | af
deriving DecidableEq, Repr

/-- The conditions (30_encoding.md R74). -/
inductive Cond where
  | nz | z | nc | c
deriving DecidableEq, Repr

/-- The 8-bit ALU operations (30_encoding.md R75). -/
inductive AluOp where
  | add | adc | sub | sbc | and | xor | or | cp
deriving DecidableEq, Repr

/-- The rotates and shifts of the CB table (30_encoding.md R76). -/
inductive RotOp where
  | rlc | rrc | rl | rr | sla | sra | swap | srl
deriving DecidableEq, Repr

/-- The instructions: first the rows with an immediate (Lean's code generator gives constructors with fields the low
tags), then the others, each group in the order of the opcode table. -/
inductive Instr where
  | ldBcD16 (nn : Word)
  | ldBD8 (n : Byte)
  | ldMemA16Sp (addr : Word)
  | ldCD8 (n : Byte)
  | ldDeD16 (nn : Word)
  | ldDD8 (n : Byte)
  | jrE8 (e : Byte)
  | ldED8 (n : Byte)
  | jrNzE8 (e : Byte)
  | ldHlD16 (nn : Word)
  | ldHD8 (n : Byte)
  | jrZE8 (e : Byte)
  | ldLD8 (n : Byte)
  | jrNcE8 (e : Byte)
  | ldSpD16 (nn : Word)
  | ldMemHlD8 (n : Byte)
  | jrCE8 (e : Byte)
  | ldAD8 (n : Byte)
  | jpNzA16 (addr : Word)
  | jpA16 (addr : Word)
  | callNzA16 (addr : Word)
  | addAD8 (n : Byte)
  | jpZA16 (addr : Word)
  | prefixCb (cb : Byte)
  | callZA16 (addr : Word)
  | callA16 (addr : Word)
  | adcAD8 (n : Byte)
  | jpNcA16 (addr : Word)
  | callNcA16 (addr : Word)
  | subD8 (n : Byte)
  | jpCA16 (addr : Word)
  | callCA16 (addr : Word)
  | sbcAD8 (n : Byte)
  | ldhMemA8A (n : Byte)
  | andD8 (n : Byte)
  | addSpE8 (e : Byte)
  | ldMemA16A (addr : Word)
  | xorD8 (n : Byte)
  | ldhAMemA8 (n : Byte)
  | orD8 (n : Byte)
  | ldHlSpE8 (e : Byte)
  | ldAMemA16 (addr : Word)
  | cpD8 (n : Byte)
  -- 0x00 to 0x0F
  | nop
  | ldMemBcA
  | incBc
  | incB
  | decB
  | rlca
  | addHlBc
  | ldAMemBc
  | decBc
  | incC
  | decC
  | rrca
  -- 0x10 to 0x1F
  | stop
  | ldMemDeA
  | incDe
  | incD
  | decD
  | rla
  | addHlDe
  | ldAMemDe
  | decDe
  | incE
  | decE
  | rra
  | ldMemHlIncA
  | incHl
  | incH
  | decH
  | daa
  | addHlHl
  | ldAMemHlInc
  | decHl
  | incL
  | decL
  | cpl
  | ldMemHlDecA
  | incSp
  | incMemHl
  | decMemHl
  | scf
  | addHlSp
  | ldAMemHlDec
  | decSp
  | incA
  | decA
  | ccf
  -- 0x40 to 0x4F
  | ldBB
  | ldBC
  | ldBD
  | ldBE
  | ldBH
  | ldBL
  | ldBMemHl
  | ldBA
  | ldCB
  | ldCC
  | ldCD
  | ldCE
  | ldCH
  | ldCL
  | ldCMemHl
  | ldCA
  -- 0x50 to 0x5F
  | ldDB
  | ldDC
  | ldDD
  | ldDE
  | ldDH
  | ldDL
  | ldDMemHl
  | ldDA
  | ldEB
  | ldEC
  | ldED
  | ldEE
  | ldEH
  | ldEL
  | ldEMemHl
  | ldEA
  -- 0x60 to 0x6F
  | ldHB
  | ldHC
  | ldHD
  | ldHE
  | ldHH
  | ldHL
  | ldHMemHl
  | ldHA
  | ldLB
  | ldLC
  | ldLD
  | ldLE
  | ldLH
  | ldLL
  | ldLMemHl
  | ldLA
  -- 0x70 to 0x7F
  | ldMemHlB
  | ldMemHlC
  | ldMemHlD
  | ldMemHlE
  | ldMemHlH
  | ldMemHlL
  | halt
  | ldMemHlA
  | ldAB
  | ldAC
  | ldAD
  | ldAE
  | ldAH
  | ldAL
  | ldAMemHl
  | ldAA
  -- 0x80 to 0x8F
  | addAB
  | addAC
  | addAD
  | addAE
  | addAH
  | addAL
  | addAMemHl
  | addAA
  | adcAB
  | adcAC
  | adcAD
  | adcAE
  | adcAH
  | adcAL
  | adcAMemHl
  | adcAA
  -- 0x90 to 0x9F
  | subB
  | subC
  | subD
  | subE
  | subH
  | subL
  | subMemHl
  | subA
  | sbcAB
  | sbcAC
  | sbcAD
  | sbcAE
  | sbcAH
  | sbcAL
  | sbcAMemHl
  | sbcAA
  -- 0xA0 to 0xAF
  | andB
  | andC
  | andD
  | andE
  | andH
  | andL
  | andMemHl
  | andA
  | xorB
  | xorC
  | xorD
  | xorE
  | xorH
  | xorL
  | xorMemHl
  | xorA
  -- 0xB0 to 0xBF
  | orB
  | orC
  | orD
  | orE
  | orH
  | orL
  | orMemHl
  | orA
  | cpB
  | cpC
  | cpD
  | cpE
  | cpH
  | cpL
  | cpMemHl
  | cpA
  -- 0xC0 to 0xCF
  | retNz
  | popBc
  | pushBc
  | rst00H
  | retZ
  | ret
  | rst08H
  -- 0xD0 to 0xDF
  | retNc
  | popDe
  | illegalD3
  | pushDe
  | rst10H
  | retC
  | reti
  | illegalDB
  | illegalDD
  | rst18H
  | popHl
  | ldMemCA
  | illegalE3
  | illegalE4
  | pushHl
  | rst20H
  | jpHl
  | illegalEB
  | illegalEC
  | illegalED
  | rst28H
  | popAf
  | ldAMemC
  | di
  | illegalF4
  | pushAf
  | rst30H
  | ldSpHl
  | ei
  | illegalFC
  | illegalFD
  | rst38H
  -- CB 0x00 to 0x0F
  | rlcB
  | rlcC
  | rlcD
  | rlcE
  | rlcH
  | rlcL
  | rlcMemHl
  | rlcA
  | rrcB
  | rrcC
  | rrcD
  | rrcE
  | rrcH
  | rrcL
  | rrcMemHl
  | rrcA
  -- CB 0x10 to 0x1F
  | rlB
  | rlC
  | rlD
  | rlE
  | rlH
  | rlL
  | rlMemHl
  | rlA
  | rrB
  | rrC
  | rrD
  | rrE
  | rrH
  | rrL
  | rrMemHl
  | rrA
  -- CB 0x20 to 0x2F
  | slaB
  | slaC
  | slaD
  | slaE
  | slaH
  | slaL
  | slaMemHl
  | slaA
  | sraB
  | sraC
  | sraD
  | sraE
  | sraH
  | sraL
  | sraMemHl
  | sraA
  -- CB 0x30 to 0x3F
  | swapB
  | swapC
  | swapD
  | swapE
  | swapH
  | swapL
  | swapMemHl
  | swapA
  | srlB
  | srlC
  | srlD
  | srlE
  | srlH
  | srlL
  | srlMemHl
  | srlA
  -- CB 0x40 to 0x4F
  | bit0B
  | bit0C
  | bit0D
  | bit0E
  | bit0H
  | bit0L
  | bit0MemHl
  | bit0A
  | bit1B
  | bit1C
  | bit1D
  | bit1E
  | bit1H
  | bit1L
  | bit1MemHl
  | bit1A
  -- CB 0x50 to 0x5F
  | bit2B
  | bit2C
  | bit2D
  | bit2E
  | bit2H
  | bit2L
  | bit2MemHl
  | bit2A
  | bit3B
  | bit3C
  | bit3D
  | bit3E
  | bit3H
  | bit3L
  | bit3MemHl
  | bit3A
  -- CB 0x60 to 0x6F
  | bit4B
  | bit4C
  | bit4D
  | bit4E
  | bit4H
  | bit4L
  | bit4MemHl
  | bit4A
  | bit5B
  | bit5C
  | bit5D
  | bit5E
  | bit5H
  | bit5L
  | bit5MemHl
  | bit5A
  -- CB 0x70 to 0x7F
  | bit6B
  | bit6C
  | bit6D
  | bit6E
  | bit6H
  | bit6L
  | bit6MemHl
  | bit6A
  | bit7B
  | bit7C
  | bit7D
  | bit7E
  | bit7H
  | bit7L
  | bit7MemHl
  | bit7A
  -- CB 0x80 to 0x8F
  | res0B
  | res0C
  | res0D
  | res0E
  | res0H
  | res0L
  | res0MemHl
  | res0A
  | res1B
  | res1C
  | res1D
  | res1E
  | res1H
  | res1L
  | res1MemHl
  | res1A
  -- CB 0x90 to 0x9F
  | res2B
  | res2C
  | res2D
  | res2E
  | res2H
  | res2L
  | res2MemHl
  | res2A
  | res3B
  | res3C
  | res3D
  | res3E
  | res3H
  | res3L
  | res3MemHl
  | res3A
  -- CB 0xA0 to 0xAF
  | res4B
  | res4C
  | res4D
  | res4E
  | res4H
  | res4L
  | res4MemHl
  | res4A
  | res5B
  | res5C
  | res5D
  | res5E
  | res5H
  | res5L
  | res5MemHl
  | res5A
  -- CB 0xB0 to 0xBF
  | res6B
  | res6C
  | res6D
  | res6E
  | res6H
  | res6L
  | res6MemHl
  | res6A
  | res7B
  | res7C
  | res7D
  | res7E
  | res7H
  | res7L
  | res7MemHl
  | res7A
  -- CB 0xC0 to 0xCF
  | set0B
  | set0C
  | set0D
  | set0E
  | set0H
  | set0L
  | set0MemHl
  | set0A
  | set1B
  | set1C
  | set1D
  | set1E
  | set1H
  | set1L
  | set1MemHl
  | set1A
  -- CB 0xD0 to 0xDF
  | set2B
  | set2C
  | set2D
  | set2E
  | set2H
  | set2L
  | set2MemHl
  | set2A
  | set3B
  | set3C
  | set3D
  | set3E
  | set3H
  | set3L
  | set3MemHl
  | set3A
  -- CB 0xE0 to 0xEF
  | set4B
  | set4C
  | set4D
  | set4E
  | set4H
  | set4L
  | set4MemHl
  | set4A
  | set5B
  | set5C
  | set5D
  | set5E
  | set5H
  | set5L
  | set5MemHl
  | set5A
  -- CB 0xF0 to 0xFF
  | set6B
  | set6C
  | set6D
  | set6E
  | set6H
  | set6L
  | set6MemHl
  | set6A
  | set7B
  | set7C
  | set7D
  | set7E
  | set7H
  | set7L
  | set7MemHl
  | set7A
deriving DecidableEq, Repr

end Sys2Proof
end

