-- ==== Sys2Proof/Machine/Kernel.lean ====
section
/-! DEFINITION. The Arithmetic/Bit Kernel (00_scope.md section 5): pure functions of naturals and bytes. -/

namespace Sys2Proof.Machine

/-- The operators of `Apply` (00_scope.md R10). -/
inductive KernelOp where
  | add
  | sub
  | and
  | xor
  | or
deriving DecidableEq, Repr

/-- One folding step at width `w` on operands already below 2^w; the remainder is non-negative (00_scope.md R6, R10). -/
def applyStep (op : KernelOp) (w acc r : Nat) : Nat :=
  match op with
  | .add => (acc + r) % 2 ^ w
  | .sub => (acc + 2 ^ w - r) % 2 ^ w
  | .and => (acc &&& r) % 2 ^ w
  | .xor => (acc ^^^ r) % 2 ^ w
  | .or => (acc ||| r) % 2 ^ w

/-- `Apply(op, w, left, r1, ..., rk)` (00_scope.md R10). -/
def apply (op : KernelOp) (w left : Nat) (rights : List Nat) : Nat :=
  rights.foldl (fun acc r => applyStep op w acc (r % 2 ^ w)) (left % 2 ^ w)

/-- Whether one exact step leaves [0, 2^w - 1]; And, Xor and Or never do (00_scope.md R11). -/
def carryStep (op : KernelOp) (w acc r : Nat) : Bool :=
  match op with
  | .add => decide (2 ^ w ≤ acc + r)
  | .sub => decide (acc < r)
  | .and | .xor | .or => false

/-- The fold of `CarryOccurs` from an accumulator already masked (00_scope.md R11). -/
def carryFold (op : KernelOp) (w acc : Nat) : List Nat → Bool
  | [] => false
  | r :: rest =>
    carryStep op w acc (r % 2 ^ w) || carryFold op w (applyStep op w acc (r % 2 ^ w)) rest

/-- `CarryOccurs(op, w, left, r1, ..., rk)` (00_scope.md R11). -/
def carryOccurs (op : KernelOp) (w left : Nat) (rights : List Nat) : Bool :=
  carryFold op w (left % 2 ^ w) rights

/-- `Apply` at width 8 on bytes. -/
def apply8 (op : KernelOp) (left : Byte) (rights : List Nat) : Byte :=
  BitVec.ofNat 8 (apply op 8 left.toNat rights)

/-- `Apply` at width 16 on words. -/
def apply16 (op : KernelOp) (left : Word) (rights : List Nat) : Word :=
  BitVec.ofNat 16 (apply op 16 left.toNat rights)

/-- `sext_16` (00_scope.md R13). -/
def sext16 (v : Byte) : Word := v.signExtend 16

/-- `GetBit(v, i)` (00_scope.md R14). -/
def getBit (v : Byte) (i : Fin 8) : Bool := v.getLsbD i.val

/-- A byte whose bit `i` is `b` and whose other bits are 0. -/
def bitMask (i : Fin 8) (b : Bool) : Byte := if b then 1#8 <<< i.val else 0#8

/-- `SetBit(v, i, b)` (00_scope.md R14). -/
def setBit (v : Byte) (i : Fin 8) (b : Bool) : Byte := (v &&& ~~~(bitMask i true)) ||| bitMask i b

/-- `FirstBit(v)` (00_scope.md R14). -/
def firstBit (v : Byte) : Bool := getBit v 0

/-- `LastBit(v, 8)` (00_scope.md R14). -/
def lastBit (v : Byte) : Bool := getBit v 7

/-- A flag as a number, the carry-in of a kernel call (42_alu8.md R140). -/
def carryIn (c : Bool) : Nat := c.toNat

end Sys2Proof.Machine
end

