-- ==== Sys2Proof/Machine/State.lean ====
section
/-! DEFINITION. The machine's state (10_state.md), its faults (60_exceptions.md R270), its refusals,
and the state after reset (10_state.md R36). -/

namespace Sys2Proof.Machine

/-- The four flags of the register `f` (10_state.md R24, R25). The low nibble of `f` cannot be represented. -/
structure Flags where
  z : Bool
  n : Bool
  h : Bool
  c : Bool
deriving DecidableEq, Repr

/-- The direction of a bus call (60_exceptions.md R272). -/
inductive Dir where
  | read
  | write
deriving DecidableEq, Repr

/-- A place where the bus may reject a call (20_memory.md R59). -/
structure BusSite where
  dir  : Dir
  addr : Word
deriving DecidableEq, Repr

/-- What the bus does at one call (92_eei_decisions.md D1, a function from the bus state and a call to a result and a new
bus state, with failure allowed): it acts as the reference memory of 20_memory.md R64, or the platform answers in its own
way, with a result (none: the call fails, R59; the byte is what a read returns) and with the bytes behind the bus that
it changes (log entry 17). -/
inductive BusReply where
  | asMemory
  | platform (result : Option Byte) (changes : List (Word × Byte))
deriving DecidableEq, Repr

/-- One completed bus call: its direction, address and datum (20_memory.md R58). -/
structure BusCall where
  dir   : Dir
  addr  : Word
  value : Byte
deriving DecidableEq, Repr

/-- The faults of the core, exactly the four of 60_exceptions.md R270. An instruction or a service that
raises one gives a NEXT state with `run = faulted _` (10_state.md R31); `step` answers it as the machine's
stop from then on. Safe: the spec makes the state terminal (log entry 5). -/
inductive Fault where
  /-- Raised by the handler of an illegal opcode: the opcode and its address (60_exceptions.md R273). Safe. -/
  | illegalOpcode (op : Byte) (pc : Word)
  /-- Raised by STOP under `STOP_MODE = Fault`: the opcode and its address (60_exceptions.md R274). Safe. -/
  | unimplemented (op : Byte) (pc : Word)
  /-- Raised by a bus call that the bus rejects (60_exceptions.md R272). Safe. -/
  | busError (addr : Word) (dir : Dir)
  /-- Raised by a half-carry computation on an odd width (60_exceptions.md R271). No instruction asks for one. Safe. -/
  | kernelAssertion (width : Nat)
deriving DecidableEq, Repr

/-- The power and run state (10_state.md R31). -/
inductive RunState where
  | running
  | halted
  | faulted (f : Fault)
deriving DecidableEq, Repr

/-- The refusals. -/
inductive Refusal where
  /-- Raised by exec's arm of an instruction that has no meaning yet. Safe. -/
  | notModelled (mnemonic : String)
  /-- Raised by the host call `step()` when the core is not Running (60_exceptions.md R289, D14). Safe. -/
  | stepNotRunning
deriving DecidableEq, Repr

/-- Memory as plain data: pairs (address, byte) in the canonical form of `Memory.wf` (20_memory.md R50, R64). -/
abbrev Memory := List Host.Cell

/-- The state of the machine. The first group is the spec's own record (10_state.md, table at its head),
the second is the state of the bus collaborator (20_memory.md R58, R64, 92_eei_decisions.md D1), the third is what the last
iteration reported to the outside (00_scope.md R4, 20_memory.md R58, 60_exceptions.md R288). -/
structure State where
  /-- The accumulator (10_state.md R20). -/
  a : Byte
  b : Byte
  c : Byte
  d : Byte
  e : Byte
  h : Byte
  l : Byte
  /-- The flags (10_state.md R24). -/
  f : Flags
  /-- The stack pointer (10_state.md R27). -/
  sp : Word
  /-- The address of the next byte to fetch (10_state.md R28). -/
  pc : Word
  /-- The master interrupt enable (10_state.md R29). -/
  ime : Bool
  /-- The one-instruction EI delay (10_state.md R30). -/
  eiDelay : Bool
  /-- Running, Halted or Faulted (10_state.md R31). -/
  run : RunState
  /-- The bytes behind the bus; IE and IF are two of them (10_state.md R32). -/
  mem : Memory
  /-- The calls the bus rejects while it acts as the memory (log entry 14). -/
  rejects : List BusSite
  /-- What the bus does at the coming calls, the next one first; from the end of the list on it acts as the memory
  (log entry 17). -/
  replies : List BusReply
  /-- The IF bits external devices will set, one entry for each `Timer.inc` call (log entry 10). -/
  requests : List Byte
  /-- The parameters of 00_scope.md R5 (log entry 3). -/
  cfg : Config
  /-- The m-cycle count the last `Execute()` returned; none when it returned nothing (log entry 9). -/
  cycles : Option Nat
  /-- The `Timer.inc` calls of this iteration, in order (log entry 9). -/
  timerCalls : List Nat
  /-- The completed bus calls of this iteration, in order (log entry 9). -/
  busCalls : List BusCall
deriving DecidableEq, Repr

/-- The state after construction and `reset()` (10_state.md R36, 70_reset_and_hazards.md R300), on a bus
that is the reference memory: nothing listed, nothing rejected, no reply of its own, nothing requested (log entries 2, 10,
13, 14, 17). -/
def State.reset : State :=
  { a := 0#8, b := 0#8, c := 0#8, d := 0#8, e := 0#8, h := 0#8, l := 0#8
    f := { z := false, n := false, h := false, c := false }
    sp := 0x0000#16, pc := 0x0000#16
    ime := false, eiDelay := false, run := .running
    mem := [], rejects := [], replies := [], requests := [], cfg := Config.standard
    cycles := none, timerCalls := [], busCalls := [] }

end Sys2Proof.Machine
end

