-- ==== Sys2Proof/Machine/Flags.lean ====
section
/-! DEFINITION. The byte view of the flags (10_state.md R24), conditions (46_control.md R220) and the pure flag
computations the instruction rules share. The flag rules that need the half-carry are in IncDec, Alu8 and Alu16, written with
the operation `halfCarry` of Ops.lean. -/

namespace Sys2Proof.Machine

/-- `F`: Z, N, H, C in bits 7, 6, 5, 4; bits 3..0 are zero (10_state.md R24). -/
def Flags.toByte (f : Flags) : Byte :=
  bitMask 7 f.z ||| bitMask 6 f.n ||| bitMask 5 f.h ||| bitMask 4 f.c

/-- The flags written from a byte; `v[3:0]` is discarded (10_state.md R23, R33; 47_stack.md R242). -/
def Flags.ofByte (v : Byte) : Flags :=
  { z := getBit v 7, n := getBit v 6, h := getBit v 5, c := getBit v 4 }

/-- `Cond(cc)` (46_control.md R220, 30_encoding.md R74). -/
def Flags.holds (f : Flags) : Cond → Bool
  | .nz => !f.z
  | .z => f.z
  | .nc => !f.c
  | .c => f.c

/-- `SetShiftFlags(w, c)` (44_rotate_shift.md R184). -/
def shiftFlags (w : Byte) (c : Bool) : Flags := { z := decide (w = 0#8), n := false, h := false, c := c }

/-- The flags of the accumulator rotates: C, N = 0, H = 0, and Z by `A_ROT_Z` (44_rotate_shift.md R180 to R183). -/
def aRotFlags (mode : ARotZ) (old : Flags) (c : Bool) : Flags :=
  { z := match mode with
      | .unchanged => old.z
      | .cleared => false
    n := false, h := false, c := c }

/-- The flags of BIT: Z = the tested bit is 0, N = 0, H = 1, C unchanged (45_bit.md R210). -/
def bitTestFlags (old : Flags) (v : Byte) (i : Fin 8) : Flags :=
  { z := !getBit v i, n := false, h := true, c := old.c }

/-- The value and flags of DAA: both tests read A as it was before (48_misc.md R251, D29). -/
def daaResult (a0 : Byte) (f : Flags) : Byte × Flags :=
  if f.n then
    let a1 := if f.c then a0 - 0x60#8 else a0
    let a2 := if f.h then a1 - 0x06#8 else a1
    (a2, { z := decide (a2 = 0#8), n := f.n, h := false, c := f.c })
  else
    let high := f.c || decide (0x99 < a0.toNat)
    let low := f.h || decide (0x09 < (a0 &&& 0x0F#8).toNat)
    let a1 := if high then a0 + 0x60#8 else a0
    let a2 := if low then a1 + 0x06#8 else a1
    (a2, { z := decide (a2 = 0#8), n := f.n, h := false, c := high })

end Sys2Proof.Machine
end

