-- ==== Sys2Proof/Machine/Memory.lean ====
section
/-! DEFINITION. The byte memory behind the bus (20_memory.md R50, R64) as a list in one canonical form. -/

namespace Sys2Proof.Machine

/-- What an address that nothing has written reads as. DESIGN CHOICE, unsafe: the spec gives no reset
contents (93_implementation_defined.md Part 1); log entry 2. -/
def Memory.blank : Byte := 0x00#8

/-- The canonical form: addresses strictly rising, inside the address space (20_memory.md R50), and no
entry equal to what an unlisted address reads as. -/
abbrev Memory.wf (m : Memory) : Prop :=
  m.Pairwise (fun x y => x.1 < y.1) ∧ ∀ cell ∈ m, cell.1 < 65536 ∧ cell.2 ≠ Memory.blank

/-- The byte at an address. -/
def Memory.read : Memory → Nat → Byte
  | [], _ => Memory.blank
  | (k, v) :: rest, addr => if addr = k then v else Memory.read rest addr

/-- The memory with one byte stored, in canonical form. -/
def Memory.write : Memory → Nat → Byte → Memory
  | [], addr, v => if v = Memory.blank then [] else [(addr, v)]
  | (k, w) :: rest, addr, v =>
    if addr < k then
      if v = Memory.blank then (k, w) :: rest else (addr, v) :: (k, w) :: rest
    else if addr = k then
      if v = Memory.blank then rest else (k, v) :: rest
    else (k, w) :: Memory.write rest addr v

/-- The memory with a list of bytes stored, in order. -/
def Memory.storeAll (m : Memory) : List (Word × Byte) → Memory
  | [] => m
  | (addr, v) :: rest => Memory.storeAll (m.write addr.toNat v) rest

/-- The byte of the state's memory at a bus address: what a read answers while the bus acts as the memory. -/
def State.byteAt (s : State) (addr : Word) : Byte := s.mem.read addr.toNat

/-- The state with one byte of memory stored. -/
def State.storeByte (s : State) (addr : Word) (v : Byte) : State :=
  { s with mem := s.mem.write addr.toNat v }

end Sys2Proof.Machine
end

