-- ==== Sys2Proof/Machine/Operands.lean ====
section
/-! DEFINITION. The operand forms: 8-bit registers (30_encoding.md R72), register pairs as views
(10_state.md R22, R23), the 16-bit operand fields (30_encoding.md R73) and the high page (20_memory.md R57). -/

namespace Sys2Proof.Machine

/-- `R8[r]` read (30_encoding.md R72). -/
def State.getR8 (s : State) : Reg8 → Byte
  | .b => s.b
  | .c => s.c
  | .d => s.d
  | .e => s.e
  | .h => s.h
  | .l => s.l
  | .a => s.a

/-- `R8[r] <- v` (10_state.md R21). -/
def State.setR8 (s : State) (r : Reg8) (v : Byte) : State :=
  match r with
  | .b => { s with b := v }
  | .c => { s with c := v }
  | .d => { s with d := v }
  | .e => { s with e := v }
  | .h => { s with h := v }
  | .l => { s with l := v }
  | .a => { s with a := v }

/-- `BC` (10_state.md R22). -/
def State.bc (s : State) : Word := mkWord s.b s.c

/-- `DE` (10_state.md R22). -/
def State.de (s : State) : Word := mkWord s.d s.e

/-- `HL` (10_state.md R22). -/
def State.hl (s : State) : Word := mkWord s.h s.l

/-- `AF`, with `F` the flag byte (10_state.md R22, R24). -/
def State.af (s : State) : Word := mkWord s.a s.f.toByte

/-- `HL <- v`, both halves at once (10_state.md R23). -/
def State.setHl (s : State) (v : Word) : State := { s with h := hiByte v, l := loByte v }

/-- `R16[p]` read (30_encoding.md R73). -/
def State.getR16 (s : State) : Reg16 → Word
  | .bc => s.bc
  | .de => s.de
  | .hl => s.hl
  | .sp => s.sp

/-- `R16[p] <- v`, both halves at once (10_state.md R23). -/
def State.setR16 (s : State) (r : Reg16) (v : Word) : State :=
  match r with
  | .bc => { s with b := hiByte v, c := loByte v }
  | .de => { s with d := hiByte v, e := loByte v }
  | .hl => s.setHl v
  | .sp => { s with sp := v }

/-- `R16S[p]` read (30_encoding.md R73). -/
def State.getR16S (s : State) : Reg16S → Word
  | .bc => s.bc
  | .de => s.de
  | .hl => s.hl
  | .af => s.af

/-- `R16S[p] <- v`; for AF the low half goes through the flag setters (10_state.md R23). -/
def State.setR16S (s : State) (r : Reg16S) (v : Word) : State :=
  match r with
  | .bc => { s with b := hiByte v, c := loByte v }
  | .de => { s with d := hiByte v, e := loByte v }
  | .hl => s.setHl v
  | .af => { s with a := hiByte v, f := Flags.ofByte (loByte v) }

/-- The high-page address `0xFF00 + n` (20_memory.md R57). -/
def highPage (n : Byte) : Word := 0xFF00#16 + n.zeroExtend 16

/-- `WAKE_MASK` as the byte of the wake test (00_scope.md R5). -/
def wakeByte : WakeMask → Byte
  | .sources => 0x1F#8
  | .whole => 0xFF#8

end Sys2Proof.Machine
end

