-- ==== Sys2Proof/Machine/Ops.lean ====
section
/-! DEFINITION. The pseudocode primitives (00_scope.md R7) as operations that end with a value or with a fault, each
with the state reached so far (20_memory.md R59): bus calls, fetches, pushes and pops, the kernel's half-carry, the
Timer call, and the interrupt entry (60_exceptions.md R284) with the return from it (R286). -/

namespace Sys2Proof.Machine

/-- A piece of pseudocode: it ends with a value and a state, or raises a fault in the state reached. -/
abbrev Op (α : Type) := EStateM Fault State α

/-- The state at this point. -/
def getState : Op State := fun s => .ok s s

/-- Register and flag writes. -/
def updateState (g : State → State) : Op Unit := fun s => .ok () (g s)

/-- `raise <Fault>(info)`: nothing after it is performed (00_scope.md R7). -/
def raise {α : Type} (f : Fault) : Op α := fun s => .error f s

/-- What the bus does at the next call (D1; log entry 17). -/
def State.reply (s : State) : BusReply := s.replies.headD .asMemory

/-- Whether the bus accepts the next call, if it is at this site (20_memory.md R59). -/
def State.accepts (s : State) (site : BusSite) : Bool :=
  match s.reply with
  | .asMemory => !decide (site ∈ s.rejects)
  | .platform result _ => result.isSome

/-- What the next call returns, if it is an accepted read of the address (20_memory.md R51). -/
def State.readValue (s : State) (addr : Word) : Byte :=
  match s.reply with
  | .asMemory => s.byteAt addr
  | .platform result _ => result.getD 0x00#8

/-- The bytes behind the bus after the next call, one that stores the given bytes where the bus acts as the memory (D1). -/
def State.memAfterCall (s : State) (stored : List (Word × Byte)) : Memory :=
  match s.reply with
  | .asMemory => s.mem.storeAll stored
  | .platform _ changes => s.mem.storeAll changes

/-- The bus after one call (D1). -/
def State.busMoves (s : State) (stored : List (Word × Byte)) : State :=
  { s with mem := s.memAfterCall stored, replies := s.replies.tail }

/-- One completed bus call is observable (20_memory.md R58). -/
def State.noteCall (s : State) (dir : Dir) (addr : Word) (v : Byte) : State :=
  { s with busCalls := s.busCalls ++ [⟨dir, addr, v⟩] }

/-- `MemRead(addr, 1)`: one `readByte`; a rejected call faults with the core as it was before it (20_memory.md R51, R59). -/
def memRead (addr : Word) : Op Byte := fun s =>
  if s.accepts ⟨.read, addr⟩ then .ok (s.readValue addr) ((s.busMoves []).noteCall .read addr (s.readValue addr))
  else .error (.busError addr .read) (s.busMoves [])

/-- `MemWrite(addr, 1, v)`: one `writeByte`; a rejected call faults with the core as it was before it (20_memory.md R51,
R59). -/
def memWrite (addr : Word) (v : Byte) : Op Unit := fun s =>
  if s.accepts ⟨.write, addr⟩ then .ok () ((s.busMoves [(addr, v)]).noteCall .write addr v)
  else .error (.busError addr .write) (s.busMoves [])

/-- `MemRead(addr, 2)`: low address first, `addr + 1` modulo 2^16 (20_memory.md R52, R53). -/
def memRead16 (addr : Word) : Op Word := do
  let lo ← memRead addr
  let hi ← memRead (addr + 1)
  return mkWord hi lo

/-- `MemWrite(addr, 2, v)`: low byte at `addr`, then high byte at `addr + 1` (20_memory.md R52, R53). -/
def memWrite16 (addr : Word) (v : Word) : Op Unit := do
  memWrite addr (loByte v)
  memWrite (addr + 1) (hiByte v)

/-- `Fetch8()`: PC advances after the read (00_scope.md R7, 30_encoding.md R77). -/
def fetch8 : Op Byte := do
  let s ← getState
  let v ← memRead s.pc
  updateState fun s => { s with pc := s.pc + 1 }
  return v

/-- One half of `Push16`: `SP <- SP - 1 ; MemWrite(SP, 1, v)` (20_memory.md R55). -/
def pushByte (v : Byte) : Op Unit := do
  updateState fun s => { s with sp := s.sp - 1 }
  let s ← getState
  memWrite s.sp v

/-- `Push16(v)`: the high byte first (20_memory.md R55, 90_conflicts.md C1). -/
def push16 (v : Word) : Op Unit := do
  pushByte (hiByte v)
  pushByte (loByte v)

/-- One half of `Pop16`: `MemRead(SP, 1) ; SP <- SP + 1` (20_memory.md R56). -/
def popByte : Op Byte := do
  let s ← getState
  let v ← memRead s.sp
  updateState fun s => { s with sp := s.sp + 1 }
  return v

/-- `Pop16()`: the low byte first (20_memory.md R56). -/
def pop16 : Op Word := do
  let lo ← popByte
  let hi ← popByte
  return mkWord hi lo

/-- `HalfCarry(op, w, left, rights)`; an odd width is a kernel assertion (00_scope.md R12, 60_exceptions.md R271). -/
def halfCarry (op : KernelOp) (w left : Nat) (rights : List Nat) : Op Bool :=
  if w % 2 = 1 then raise (.kernelAssertion w) else pure (carryOccurs op (w / 2) left rights)

/-- All four flags written through their setters (10_state.md R25). -/
def setFlags (f : Flags) : Op Unit := updateState fun s => { s with f := f }

/-- The device side of one `Timer.inc` call: the next entry of `requests` is OR-ed into IF, on the bus's side of
the interface (60_exceptions.md R278, R288; log entries 10, 16). -/
def State.deviceRequests (s : State) : State :=
  match s.requests with
  | [] => s
  | bits :: rest =>
    { (s.storeByte s.cfg.ifAddr (s.byteAt s.cfg.ifAddr ||| bits)) with requests := rest }

/-- `Timer.inc(n)` (60_exceptions.md R288). -/
def timerInc (n : Nat) : Op Unit := updateState fun s =>
  ({ s with timerCalls := s.timerCalls ++ [n] } : State).deviceRequests

/-- The five interrupt sources (60_exceptions.md R276). -/
inductive Source where
  | vblank
  | lcd
  | timer
  | serial
  | joypad
deriving DecidableEq, Repr

/-- The bit of a source in IE and IF (60_exceptions.md R276). -/
def sourceBit : Source → Fin 8
  | .vblank => 0
  | .lcd => 1
  | .timer => 2
  | .serial => 3
  | .joypad => 4

/-- `Vector[k]` (60_exceptions.md R276). -/
def sourceVector : Source → Word
  | .vblank => 0x0040#16
  | .lcd => 0x0048#16
  | .timer => 0x0050#16
  | .serial => 0x0058#16
  | .joypad => 0x0060#16

/-- The sources from the highest to the lowest priority (60_exceptions.md R276, R283). -/
def sourcePriority : List Source := [.vblank, .lcd, .timer, .serial, .joypad]

/-- The serviceable source of highest priority, if any (60_exceptions.md R279, R283). -/
def firstServiceable (ie iflag : Byte) : Option Source :=
  sourcePriority.find? fun k => getBit ie (sourceBit k) && getBit iflag (sourceBit k)

/-- `Service(k, if_)`, the interrupt entry (60_exceptions.md R284). -/
def service (k : Source) (iflag : Byte) : Op Unit := do
  updateState fun s => { s with ime := false }
  let s ← getState
  memWrite s.cfg.ifAddr (setBit iflag (sourceBit k) false)
  let s ← getState
  push16 s.pc
  updateState fun s => { s with pc := sourceVector k, run := .running }
  timerInc 5

/-- The return from an interrupt: `PC <- Pop16() ; IME <- true`, at once (46_control.md R230, 60_exceptions.md R286). -/
def interruptReturn : Op Unit := do
  let target ← pop16
  updateState fun s => { s with pc := target, ime := true }

/-- The scan shared by the check and the Halted poll: at most one service (60_exceptions.md R282, R283, R285). -/
def serviceFirst (ie iflag : Byte) : Op Unit :=
  match firstServiceable ie iflag with
  | some k => service k iflag
  | none => pure ()

/-- `InterruptCheck()` (60_exceptions.md R282). -/
def interruptCheck : Op Unit := do
  let s ← getState
  if s.eiDelay then
    updateState fun s => { s with eiDelay := false }
  else if s.ime then do
    let ie ← memRead s.cfg.ieAddr
    let iflag ← memRead s.cfg.ifAddr
    serviceFirst ie iflag
  else pure ()

/-- The poll of a Halted iteration (60_exceptions.md R285). -/
def haltedPoll : Op Unit := do
  timerInc 1
  let s ← getState
  let ie ← memRead s.cfg.ieAddr
  let iflag ← memRead s.cfg.ifAddr
  if ie &&& iflag &&& wakeByte s.cfg.wakeMask = 0#8 then pure ()
  else do
    updateState fun s => { s with run := .running }
    if s.ime then serviceFirst ie iflag else pure ()

/-- The core after a fault: Faulted, with every effect so far kept (10_state.md R31, D28). -/
def State.faultedBy (s : State) (f : Fault) : State := { s with run := .faulted f }

/-- An operation run by the machine itself: a fault leaves the core Faulted (60_exceptions.md R270). -/
def settle {α : Type} (op : Op α) (s : State) : Host.Outcome State Fault Refusal :=
  match op s with
  | .ok _ s' => .next s'
  | .error f s' => .next (s'.faultedBy f)

/-- A handler of the opcode tables: it reports its m-cycles, or nothing when it faults (30_encoding.md R78). -/
def handler (op : Op Nat) (s : State) : Host.Outcome State Fault Refusal :=
  match op s with
  | .ok n s' => .next { s' with cycles := some n }
  | .error f s' => .next { s'.faultedBy f with cycles := none }

/-- A CB handler seen through the prefix handler: its count is added to the prefix's own 1 (48_misc.md R259). -/
def prefixed (op : Op Nat) : Op Nat := do
  let n ← op
  return 1 + n

end Sys2Proof.Machine
end

