-- ==== Sys2Proof/Machine/Alu16.lean ====
section
/-! DEFINITION. 16-bit arithmetic (43_alu16.md R170 to R172): the shared operations, then one meaning for each row. -/

namespace Sys2Proof.Machine

/-- `ADD HL,rr`: Z unchanged, H from bit 11, C from bit 15 (R170). -/
def addHlRr (rr : Reg16) : Op Nat := do
  let s ← getState
  let v := s.hl
  let w := s.getR16 rr
  updateState fun s => s.setHl (apply16 .add v [w.toNat])
  setFlags
    { z := s.f.z, n := false, h := carryOccurs .add 12 v.toNat [w.toNat]
      c := carryOccurs .add 16 v.toNat [w.toNat] }
  return 2

/-- `SP + sext_16(e)` (R171, R172). -/
def spPlus (sp : Word) (e : Byte) : Word := apply16 .add sp [(sext16 e).toNat]

/-- The flags of `SP+e8`: Z = N = 0, H and C of the low byte's unsigned sum (R171, R172). -/
def spPlusFlags (sp : Word) (e : Byte) : Flags :=
  { z := false, n := false, h := carryOccurs .add 4 sp.toNat [e.toNat]
    c := carryOccurs .add 8 sp.toNat [e.toNat] }

/-- `ADD SP,e8` (R171). -/
def addSpE8 (e : Byte) : Op Nat := do
  let s ← getState
  updateState fun s => { s with sp := spPlus s.sp e }
  setFlags (spPlusFlags s.sp e)
  return 4

/-- `LD HL,SP+e8`: SP is not changed (R172). -/
def ldHlSpE8 (e : Byte) : Op Nat := do
  let s ← getState
  updateState fun s => s.setHl (spPlus s.sp e)
  setFlags (spPlusFlags s.sp e)
  return 3

/-- `ADD HL,BC`, 0x09 (R170): 2 m-cycles. -/
def execAddHlBc (s : State) : Host.Outcome State Fault Refusal := handler (addHlRr .bc) s

/-- `ADD HL,DE`, 0x19 (R170): 2 m-cycles. -/
def execAddHlDe (s : State) : Host.Outcome State Fault Refusal := handler (addHlRr .de) s

/-- `ADD HL,HL`, 0x29 (R170): 2 m-cycles. -/
def execAddHlHl (s : State) : Host.Outcome State Fault Refusal := handler (addHlRr .hl) s

/-- `ADD HL,SP`, 0x39 (R170): 2 m-cycles. -/
def execAddHlSp (s : State) : Host.Outcome State Fault Refusal := handler (addHlRr .sp) s

/-- `ADD SP,e8`, 0xE8 (R171): 4 m-cycles. -/
def execAddSpE8 (e : Byte) (s : State) : Host.Outcome State Fault Refusal := handler (addSpE8 e) s

/-- `LD HL,SP+e8`, 0xF8 (R172): 3 m-cycles. -/
def execLdHlSpE8 (e : Byte) (s : State) : Host.Outcome State Fault Refusal := handler (ldHlSpE8 e) s

end Sys2Proof.Machine
end

