-- ==== Sys2Proof/Machine/Alu8.lean ====
section
/-! DEFINITION. 8-bit arithmetic and logic (42_alu8.md R140 to R164): the eight operations, their three operand forms,
then one meaning for each row. -/

namespace Sys2Proof.Machine

/-- The arithmetic operations: result and all four flags from the kernel; `rights` are the operand and, for ADC and
SBC, the carry (R140). -/
def aluArith (op : KernelOp) (a : Byte) (rights : List Nat) : Op Byte := do
  let res := apply8 op a rights
  let h ← halfCarry op 8 a.toNat rights
  setFlags
    { z := decide (res = 0#8), n := decide (op = .sub), h := h, c := carryOccurs op 8 a.toNat rights }
  return res

/-- The logic operations: N = 0, C = 0 and a fixed H (R140). -/
def aluLogic (op : KernelOp) (h : Bool) (a b : Byte) : Op Byte := do
  let res := apply8 op a [b.toNat]
  setFlags { z := decide (res = 0#8), n := false, h := h, c := false }
  return res

/-- The operation of an ALU field on `a` and `b`; ADC and SBC read the carry before any flag write (R140). -/
def aluResult (op : AluOp) (a b : Byte) : Op Byte := do
  let s ← getState
  match op with
  | .add => aluArith .add a [b.toNat]
  | .adc => aluArith .add a [b.toNat, carryIn s.f.c]
  | .sub => aluArith .sub a [b.toNat]
  | .sbc => aluArith .sub a [b.toNat, carryIn s.f.c]
  | .and => aluLogic .and true a b
  | .xor => aluLogic .xor false a b
  | .or => aluLogic .or false a b
  | .cp => aluArith .sub a [b.toNat]

/-- `A <- Alu(A, b)`; CP discards the result (R140). -/
def aluAccumulate (op : AluOp) (b : Byte) : Op Unit := do
  let s ← getState
  let res ← aluResult op s.a b
  updateState fun s => match op with
    | .cp => s
    | .add | .adc | .sub | .sbc | .and | .xor | .or => { s with a := res }

/-- The register form (R141, R144, R147, R150, R153, R156, R159, R162). -/
def aluR (op : AluOp) (r : Reg8) : Op Nat := do
  let s ← getState
  aluAccumulate op (s.getR8 r)
  return 1

/-- The (HL) form (R142, R145, R148, R151, R154, R157, R160, R163). -/
def aluMemHl (op : AluOp) : Op Nat := do
  let s ← getState
  let b ← memRead s.hl
  aluAccumulate op b
  return 2

/-- The immediate form (R143, R146, R149, R152, R155, R158, R161, R164). -/
def aluD8 (op : AluOp) (n : Byte) : Op Nat := do
  aluAccumulate op n
  return 2

/-- `ADD A,B`, 0x80 (R141): 1 m-cycle. -/
def execAddAB (s : State) : Host.Outcome State Fault Refusal := handler (aluR .add .b) s

/-- `ADD A,C`, 0x81 (R141): 1 m-cycle. -/
def execAddAC (s : State) : Host.Outcome State Fault Refusal := handler (aluR .add .c) s

/-- `ADD A,D`, 0x82 (R141): 1 m-cycle. -/
def execAddAD (s : State) : Host.Outcome State Fault Refusal := handler (aluR .add .d) s

/-- `ADD A,E`, 0x83 (R141): 1 m-cycle. -/
def execAddAE (s : State) : Host.Outcome State Fault Refusal := handler (aluR .add .e) s

/-- `ADD A,H`, 0x84 (R141): 1 m-cycle. -/
def execAddAH (s : State) : Host.Outcome State Fault Refusal := handler (aluR .add .h) s

/-- `ADD A,L`, 0x85 (R141): 1 m-cycle. -/
def execAddAL (s : State) : Host.Outcome State Fault Refusal := handler (aluR .add .l) s

/-- `ADD A,(HL)`, 0x86 (R142): 2 m-cycles. -/
def execAddAMemHl (s : State) : Host.Outcome State Fault Refusal := handler (aluMemHl .add) s

/-- `ADD A,A`, 0x87 (R141): 1 m-cycle. -/
def execAddAA (s : State) : Host.Outcome State Fault Refusal := handler (aluR .add .a) s

/-- `ADC A,B`, 0x88 (R144): 1 m-cycle. -/
def execAdcAB (s : State) : Host.Outcome State Fault Refusal := handler (aluR .adc .b) s

/-- `ADC A,C`, 0x89 (R144): 1 m-cycle. -/
def execAdcAC (s : State) : Host.Outcome State Fault Refusal := handler (aluR .adc .c) s

/-- `ADC A,D`, 0x8A (R144): 1 m-cycle. -/
def execAdcAD (s : State) : Host.Outcome State Fault Refusal := handler (aluR .adc .d) s

/-- `ADC A,E`, 0x8B (R144): 1 m-cycle. -/
def execAdcAE (s : State) : Host.Outcome State Fault Refusal := handler (aluR .adc .e) s

/-- `ADC A,H`, 0x8C (R144): 1 m-cycle. -/
def execAdcAH (s : State) : Host.Outcome State Fault Refusal := handler (aluR .adc .h) s

/-- `ADC A,L`, 0x8D (R144): 1 m-cycle. -/
def execAdcAL (s : State) : Host.Outcome State Fault Refusal := handler (aluR .adc .l) s

/-- `ADC A,(HL)`, 0x8E (R145): 2 m-cycles. -/
def execAdcAMemHl (s : State) : Host.Outcome State Fault Refusal := handler (aluMemHl .adc) s

/-- `ADC A,A`, 0x8F (R144): 1 m-cycle. -/
def execAdcAA (s : State) : Host.Outcome State Fault Refusal := handler (aluR .adc .a) s

/-- `SUB B`, 0x90 (R147): 1 m-cycle. -/
def execSubB (s : State) : Host.Outcome State Fault Refusal := handler (aluR .sub .b) s

/-- `SUB C`, 0x91 (R147): 1 m-cycle. -/
def execSubC (s : State) : Host.Outcome State Fault Refusal := handler (aluR .sub .c) s

/-- `SUB D`, 0x92 (R147): 1 m-cycle. -/
def execSubD (s : State) : Host.Outcome State Fault Refusal := handler (aluR .sub .d) s

/-- `SUB E`, 0x93 (R147): 1 m-cycle. -/
def execSubE (s : State) : Host.Outcome State Fault Refusal := handler (aluR .sub .e) s

/-- `SUB H`, 0x94 (R147): 1 m-cycle. -/
def execSubH (s : State) : Host.Outcome State Fault Refusal := handler (aluR .sub .h) s

/-- `SUB L`, 0x95 (R147): 1 m-cycle. -/
def execSubL (s : State) : Host.Outcome State Fault Refusal := handler (aluR .sub .l) s

/-- `SUB (HL)`, 0x96 (R148): 2 m-cycles. -/
def execSubMemHl (s : State) : Host.Outcome State Fault Refusal := handler (aluMemHl .sub) s

/-- `SUB A`, 0x97 (R147): 1 m-cycle. -/
def execSubA (s : State) : Host.Outcome State Fault Refusal := handler (aluR .sub .a) s

/-- `SBC A,B`, 0x98 (R150): 1 m-cycle. -/
def execSbcAB (s : State) : Host.Outcome State Fault Refusal := handler (aluR .sbc .b) s

/-- `SBC A,C`, 0x99 (R150): 1 m-cycle. -/
def execSbcAC (s : State) : Host.Outcome State Fault Refusal := handler (aluR .sbc .c) s

/-- `SBC A,D`, 0x9A (R150): 1 m-cycle. -/
def execSbcAD (s : State) : Host.Outcome State Fault Refusal := handler (aluR .sbc .d) s

/-- `SBC A,E`, 0x9B (R150): 1 m-cycle. -/
def execSbcAE (s : State) : Host.Outcome State Fault Refusal := handler (aluR .sbc .e) s

/-- `SBC A,H`, 0x9C (R150): 1 m-cycle. -/
def execSbcAH (s : State) : Host.Outcome State Fault Refusal := handler (aluR .sbc .h) s

/-- `SBC A,L`, 0x9D (R150): 1 m-cycle. -/
def execSbcAL (s : State) : Host.Outcome State Fault Refusal := handler (aluR .sbc .l) s

/-- `SBC A,(HL)`, 0x9E (R151): 2 m-cycles. -/
def execSbcAMemHl (s : State) : Host.Outcome State Fault Refusal := handler (aluMemHl .sbc) s

/-- `SBC A,A`, 0x9F (R150): 1 m-cycle. -/
def execSbcAA (s : State) : Host.Outcome State Fault Refusal := handler (aluR .sbc .a) s

/-- `AND B`, 0xA0 (R153): 1 m-cycle. -/
def execAndB (s : State) : Host.Outcome State Fault Refusal := handler (aluR .and .b) s

/-- `AND C`, 0xA1 (R153): 1 m-cycle. -/
def execAndC (s : State) : Host.Outcome State Fault Refusal := handler (aluR .and .c) s

/-- `AND D`, 0xA2 (R153): 1 m-cycle. -/
def execAndD (s : State) : Host.Outcome State Fault Refusal := handler (aluR .and .d) s

/-- `AND E`, 0xA3 (R153): 1 m-cycle. -/
def execAndE (s : State) : Host.Outcome State Fault Refusal := handler (aluR .and .e) s

/-- `AND H`, 0xA4 (R153): 1 m-cycle. -/
def execAndH (s : State) : Host.Outcome State Fault Refusal := handler (aluR .and .h) s

/-- `AND L`, 0xA5 (R153): 1 m-cycle. -/
def execAndL (s : State) : Host.Outcome State Fault Refusal := handler (aluR .and .l) s

/-- `AND (HL)`, 0xA6 (R154): 2 m-cycles. -/
def execAndMemHl (s : State) : Host.Outcome State Fault Refusal := handler (aluMemHl .and) s

/-- `AND A`, 0xA7 (R153): 1 m-cycle. -/
def execAndA (s : State) : Host.Outcome State Fault Refusal := handler (aluR .and .a) s

/-- `XOR B`, 0xA8 (R156): 1 m-cycle. -/
def execXorB (s : State) : Host.Outcome State Fault Refusal := handler (aluR .xor .b) s

/-- `XOR C`, 0xA9 (R156): 1 m-cycle. -/
def execXorC (s : State) : Host.Outcome State Fault Refusal := handler (aluR .xor .c) s

/-- `XOR D`, 0xAA (R156): 1 m-cycle. -/
def execXorD (s : State) : Host.Outcome State Fault Refusal := handler (aluR .xor .d) s

/-- `XOR E`, 0xAB (R156): 1 m-cycle. -/
def execXorE (s : State) : Host.Outcome State Fault Refusal := handler (aluR .xor .e) s

/-- `XOR H`, 0xAC (R156): 1 m-cycle. -/
def execXorH (s : State) : Host.Outcome State Fault Refusal := handler (aluR .xor .h) s

/-- `XOR L`, 0xAD (R156): 1 m-cycle. -/
def execXorL (s : State) : Host.Outcome State Fault Refusal := handler (aluR .xor .l) s

/-- `XOR (HL)`, 0xAE (R157): 2 m-cycles. -/
def execXorMemHl (s : State) : Host.Outcome State Fault Refusal := handler (aluMemHl .xor) s

/-- `XOR A`, 0xAF (R156): 1 m-cycle. -/
def execXorA (s : State) : Host.Outcome State Fault Refusal := handler (aluR .xor .a) s

/-- `OR B`, 0xB0 (R159): 1 m-cycle. -/
def execOrB (s : State) : Host.Outcome State Fault Refusal := handler (aluR .or .b) s

/-- `OR C`, 0xB1 (R159): 1 m-cycle. -/
def execOrC (s : State) : Host.Outcome State Fault Refusal := handler (aluR .or .c) s

/-- `OR D`, 0xB2 (R159): 1 m-cycle. -/
def execOrD (s : State) : Host.Outcome State Fault Refusal := handler (aluR .or .d) s

/-- `OR E`, 0xB3 (R159): 1 m-cycle. -/
def execOrE (s : State) : Host.Outcome State Fault Refusal := handler (aluR .or .e) s

/-- `OR H`, 0xB4 (R159): 1 m-cycle. -/
def execOrH (s : State) : Host.Outcome State Fault Refusal := handler (aluR .or .h) s

/-- `OR L`, 0xB5 (R159): 1 m-cycle. -/
def execOrL (s : State) : Host.Outcome State Fault Refusal := handler (aluR .or .l) s

/-- `OR (HL)`, 0xB6 (R160): 2 m-cycles. -/
def execOrMemHl (s : State) : Host.Outcome State Fault Refusal := handler (aluMemHl .or) s

/-- `OR A`, 0xB7 (R159): 1 m-cycle. -/
def execOrA (s : State) : Host.Outcome State Fault Refusal := handler (aluR .or .a) s

/-- `CP B`, 0xB8 (R162): 1 m-cycle. -/
def execCpB (s : State) : Host.Outcome State Fault Refusal := handler (aluR .cp .b) s

/-- `CP C`, 0xB9 (R162): 1 m-cycle. -/
def execCpC (s : State) : Host.Outcome State Fault Refusal := handler (aluR .cp .c) s

/-- `CP D`, 0xBA (R162): 1 m-cycle. -/
def execCpD (s : State) : Host.Outcome State Fault Refusal := handler (aluR .cp .d) s

/-- `CP E`, 0xBB (R162): 1 m-cycle. -/
def execCpE (s : State) : Host.Outcome State Fault Refusal := handler (aluR .cp .e) s

/-- `CP H`, 0xBC (R162): 1 m-cycle. -/
def execCpH (s : State) : Host.Outcome State Fault Refusal := handler (aluR .cp .h) s

/-- `CP L`, 0xBD (R162): 1 m-cycle. -/
def execCpL (s : State) : Host.Outcome State Fault Refusal := handler (aluR .cp .l) s

/-- `CP (HL)`, 0xBE (R163): 2 m-cycles. -/
def execCpMemHl (s : State) : Host.Outcome State Fault Refusal := handler (aluMemHl .cp) s

/-- `CP A`, 0xBF (R162): 1 m-cycle. -/
def execCpA (s : State) : Host.Outcome State Fault Refusal := handler (aluR .cp .a) s

/-- `ADD A,d8`, 0xC6 (R143): 2 m-cycles. -/
def execAddAD8 (n : Byte) (s : State) : Host.Outcome State Fault Refusal := handler (aluD8 .add n) s

/-- `ADC A,d8`, 0xCE (R146): 2 m-cycles. -/
def execAdcAD8 (n : Byte) (s : State) : Host.Outcome State Fault Refusal := handler (aluD8 .adc n) s

/-- `SUB d8`, 0xD6 (R149): 2 m-cycles. -/
def execSubD8 (n : Byte) (s : State) : Host.Outcome State Fault Refusal := handler (aluD8 .sub n) s

/-- `SBC A,d8`, 0xDE (R152): 2 m-cycles. -/
def execSbcAD8 (n : Byte) (s : State) : Host.Outcome State Fault Refusal := handler (aluD8 .sbc n) s

/-- `AND d8`, 0xE6 (R155): 2 m-cycles. -/
def execAndD8 (n : Byte) (s : State) : Host.Outcome State Fault Refusal := handler (aluD8 .and n) s

/-- `XOR d8`, 0xEE (R158): 2 m-cycles. -/
def execXorD8 (n : Byte) (s : State) : Host.Outcome State Fault Refusal := handler (aluD8 .xor n) s

/-- `OR d8`, 0xF6 (R161): 2 m-cycles. -/
def execOrD8 (n : Byte) (s : State) : Host.Outcome State Fault Refusal := handler (aluD8 .or n) s

/-- `CP d8`, 0xFE (R164): 2 m-cycles. -/
def execCpD8 (n : Byte) (s : State) : Host.Outcome State Fault Refusal := handler (aluD8 .cp n) s

end Sys2Proof.Machine
end

