-- ==== Sys2Proof/Machine/Bit.lean ====
section
/-! DEFINITION. Bit test, reset and set (45_bit.md R210 to R215): the shared operations, then one meaning for each row. -/

namespace Sys2Proof.Machine

/-- `BIT b,r` (R210). -/
def bitR (i : Fin 8) (r : Reg8) : Op Nat := do
  updateState fun s => { s with f := bitTestFlags s.f (s.getR8 r) i }
  return 1

/-- `BIT b,(HL)`: the byte is read once and not written (R211). -/
def bitMemHl (i : Fin 8) : Op Nat := do
  let s ← getState
  let v ← memRead s.hl
  updateState fun s => { s with f := bitTestFlags s.f v i }
  return 2

/-- A bit of a register written (R212, R214). -/
def putBitR (i : Fin 8) (b : Bool) (r : Reg8) : Op Nat := do
  updateState fun s => s.setR8 r (setBit (s.getR8 r) i b)
  return 1

/-- A bit of the byte at HL written; the write happens in every case (R213, R215). -/
def putBitMemHl (i : Fin 8) (b : Bool) : Op Nat := do
  let s ← getState
  let v ← memRead s.hl
  memWrite s.hl (setBit v i b)
  return 3

/-- `RES b,r` (R212). -/
def resR (i : Fin 8) (r : Reg8) : Op Nat := putBitR i false r

/-- `RES b,(HL)` (R213). -/
def resMemHl (i : Fin 8) : Op Nat := putBitMemHl i false

/-- `SET b,r` (R214). -/
def setR (i : Fin 8) (r : Reg8) : Op Nat := putBitR i true r

/-- `SET b,(HL)` (R215). -/
def setMemHl (i : Fin 8) : Op Nat := putBitMemHl i true

/-- `BIT 0,B`, 0xCB 0x40 (R210): 2 m-cycles. -/
def execBit0B (s : State) : Host.Outcome State Fault Refusal := handler (prefixed (bitR 0 .b)) s

/-- `BIT 0,C`, 0xCB 0x41 (R210): 2 m-cycles. -/
def execBit0C (s : State) : Host.Outcome State Fault Refusal := handler (prefixed (bitR 0 .c)) s

/-- `BIT 0,D`, 0xCB 0x42 (R210): 2 m-cycles. -/
def execBit0D (s : State) : Host.Outcome State Fault Refusal := handler (prefixed (bitR 0 .d)) s

/-- `BIT 0,E`, 0xCB 0x43 (R210): 2 m-cycles. -/
def execBit0E (s : State) : Host.Outcome State Fault Refusal := handler (prefixed (bitR 0 .e)) s

/-- `BIT 0,H`, 0xCB 0x44 (R210): 2 m-cycles. -/
def execBit0H (s : State) : Host.Outcome State Fault Refusal := handler (prefixed (bitR 0 .h)) s

/-- `BIT 0,L`, 0xCB 0x45 (R210): 2 m-cycles. -/
def execBit0L (s : State) : Host.Outcome State Fault Refusal := handler (prefixed (bitR 0 .l)) s

/-- `BIT 0,(HL)`, 0xCB 0x46 (R211): 3 m-cycles. -/
def execBit0MemHl (s : State) : Host.Outcome State Fault Refusal := handler (prefixed (bitMemHl 0)) s

/-- `BIT 0,A`, 0xCB 0x47 (R210): 2 m-cycles. -/
def execBit0A (s : State) : Host.Outcome State Fault Refusal := handler (prefixed (bitR 0 .a)) s

/-- `BIT 1,B`, 0xCB 0x48 (R210): 2 m-cycles. -/
def execBit1B (s : State) : Host.Outcome State Fault Refusal := handler (prefixed (bitR 1 .b)) s

/-- `BIT 1,C`, 0xCB 0x49 (R210): 2 m-cycles. -/
def execBit1C (s : State) : Host.Outcome State Fault Refusal := handler (prefixed (bitR 1 .c)) s

/-- `BIT 1,D`, 0xCB 0x4A (R210): 2 m-cycles. -/
def execBit1D (s : State) : Host.Outcome State Fault Refusal := handler (prefixed (bitR 1 .d)) s

/-- `BIT 1,E`, 0xCB 0x4B (R210): 2 m-cycles. -/
def execBit1E (s : State) : Host.Outcome State Fault Refusal := handler (prefixed (bitR 1 .e)) s

/-- `BIT 1,H`, 0xCB 0x4C (R210): 2 m-cycles. -/
def execBit1H (s : State) : Host.Outcome State Fault Refusal := handler (prefixed (bitR 1 .h)) s

/-- `BIT 1,L`, 0xCB 0x4D (R210): 2 m-cycles. -/
def execBit1L (s : State) : Host.Outcome State Fault Refusal := handler (prefixed (bitR 1 .l)) s

/-- `BIT 1,(HL)`, 0xCB 0x4E (R211): 3 m-cycles. -/
def execBit1MemHl (s : State) : Host.Outcome State Fault Refusal := handler (prefixed (bitMemHl 1)) s

/-- `BIT 1,A`, 0xCB 0x4F (R210): 2 m-cycles. -/
def execBit1A (s : State) : Host.Outcome State Fault Refusal := handler (prefixed (bitR 1 .a)) s

/-- `BIT 2,B`, 0xCB 0x50 (R210): 2 m-cycles. -/
def execBit2B (s : State) : Host.Outcome State Fault Refusal := handler (prefixed (bitR 2 .b)) s

/-- `BIT 2,C`, 0xCB 0x51 (R210): 2 m-cycles. -/
def execBit2C (s : State) : Host.Outcome State Fault Refusal := handler (prefixed (bitR 2 .c)) s

/-- `BIT 2,D`, 0xCB 0x52 (R210): 2 m-cycles. -/
def execBit2D (s : State) : Host.Outcome State Fault Refusal := handler (prefixed (bitR 2 .d)) s

/-- `BIT 2,E`, 0xCB 0x53 (R210): 2 m-cycles. -/
def execBit2E (s : State) : Host.Outcome State Fault Refusal := handler (prefixed (bitR 2 .e)) s

/-- `BIT 2,H`, 0xCB 0x54 (R210): 2 m-cycles. -/
def execBit2H (s : State) : Host.Outcome State Fault Refusal := handler (prefixed (bitR 2 .h)) s

/-- `BIT 2,L`, 0xCB 0x55 (R210): 2 m-cycles. -/
def execBit2L (s : State) : Host.Outcome State Fault Refusal := handler (prefixed (bitR 2 .l)) s

/-- `BIT 2,(HL)`, 0xCB 0x56 (R211): 3 m-cycles. -/
def execBit2MemHl (s : State) : Host.Outcome State Fault Refusal := handler (prefixed (bitMemHl 2)) s

/-- `BIT 2,A`, 0xCB 0x57 (R210): 2 m-cycles. -/
def execBit2A (s : State) : Host.Outcome State Fault Refusal := handler (prefixed (bitR 2 .a)) s

/-- `BIT 3,B`, 0xCB 0x58 (R210): 2 m-cycles. -/
def execBit3B (s : State) : Host.Outcome State Fault Refusal := handler (prefixed (bitR 3 .b)) s

/-- `BIT 3,C`, 0xCB 0x59 (R210): 2 m-cycles. -/
def execBit3C (s : State) : Host.Outcome State Fault Refusal := handler (prefixed (bitR 3 .c)) s

/-- `BIT 3,D`, 0xCB 0x5A (R210): 2 m-cycles. -/
def execBit3D (s : State) : Host.Outcome State Fault Refusal := handler (prefixed (bitR 3 .d)) s

/-- `BIT 3,E`, 0xCB 0x5B (R210): 2 m-cycles. -/
def execBit3E (s : State) : Host.Outcome State Fault Refusal := handler (prefixed (bitR 3 .e)) s

/-- `BIT 3,H`, 0xCB 0x5C (R210): 2 m-cycles. -/
def execBit3H (s : State) : Host.Outcome State Fault Refusal := handler (prefixed (bitR 3 .h)) s

/-- `BIT 3,L`, 0xCB 0x5D (R210): 2 m-cycles. -/
def execBit3L (s : State) : Host.Outcome State Fault Refusal := handler (prefixed (bitR 3 .l)) s

/-- `BIT 3,(HL)`, 0xCB 0x5E (R211): 3 m-cycles. -/
def execBit3MemHl (s : State) : Host.Outcome State Fault Refusal := handler (prefixed (bitMemHl 3)) s

/-- `BIT 3,A`, 0xCB 0x5F (R210): 2 m-cycles. -/
def execBit3A (s : State) : Host.Outcome State Fault Refusal := handler (prefixed (bitR 3 .a)) s

/-- `BIT 4,B`, 0xCB 0x60 (R210): 2 m-cycles. -/
def execBit4B (s : State) : Host.Outcome State Fault Refusal := handler (prefixed (bitR 4 .b)) s

/-- `BIT 4,C`, 0xCB 0x61 (R210): 2 m-cycles. -/
def execBit4C (s : State) : Host.Outcome State Fault Refusal := handler (prefixed (bitR 4 .c)) s

/-- `BIT 4,D`, 0xCB 0x62 (R210): 2 m-cycles. -/
def execBit4D (s : State) : Host.Outcome State Fault Refusal := handler (prefixed (bitR 4 .d)) s

/-- `BIT 4,E`, 0xCB 0x63 (R210): 2 m-cycles. -/
def execBit4E (s : State) : Host.Outcome State Fault Refusal := handler (prefixed (bitR 4 .e)) s

/-- `BIT 4,H`, 0xCB 0x64 (R210): 2 m-cycles. -/
def execBit4H (s : State) : Host.Outcome State Fault Refusal := handler (prefixed (bitR 4 .h)) s

/-- `BIT 4,L`, 0xCB 0x65 (R210): 2 m-cycles. -/
def execBit4L (s : State) : Host.Outcome State Fault Refusal := handler (prefixed (bitR 4 .l)) s

/-- `BIT 4,(HL)`, 0xCB 0x66 (R211): 3 m-cycles. -/
def execBit4MemHl (s : State) : Host.Outcome State Fault Refusal := handler (prefixed (bitMemHl 4)) s

/-- `BIT 4,A`, 0xCB 0x67 (R210): 2 m-cycles. -/
def execBit4A (s : State) : Host.Outcome State Fault Refusal := handler (prefixed (bitR 4 .a)) s

/-- `BIT 5,B`, 0xCB 0x68 (R210): 2 m-cycles. -/
def execBit5B (s : State) : Host.Outcome State Fault Refusal := handler (prefixed (bitR 5 .b)) s

/-- `BIT 5,C`, 0xCB 0x69 (R210): 2 m-cycles. -/
def execBit5C (s : State) : Host.Outcome State Fault Refusal := handler (prefixed (bitR 5 .c)) s

/-- `BIT 5,D`, 0xCB 0x6A (R210): 2 m-cycles. -/
def execBit5D (s : State) : Host.Outcome State Fault Refusal := handler (prefixed (bitR 5 .d)) s

/-- `BIT 5,E`, 0xCB 0x6B (R210): 2 m-cycles. -/
def execBit5E (s : State) : Host.Outcome State Fault Refusal := handler (prefixed (bitR 5 .e)) s

/-- `BIT 5,H`, 0xCB 0x6C (R210): 2 m-cycles. -/
def execBit5H (s : State) : Host.Outcome State Fault Refusal := handler (prefixed (bitR 5 .h)) s

/-- `BIT 5,L`, 0xCB 0x6D (R210): 2 m-cycles. -/
def execBit5L (s : State) : Host.Outcome State Fault Refusal := handler (prefixed (bitR 5 .l)) s

/-- `BIT 5,(HL)`, 0xCB 0x6E (R211): 3 m-cycles. -/
def execBit5MemHl (s : State) : Host.Outcome State Fault Refusal := handler (prefixed (bitMemHl 5)) s

/-- `BIT 5,A`, 0xCB 0x6F (R210): 2 m-cycles. -/
def execBit5A (s : State) : Host.Outcome State Fault Refusal := handler (prefixed (bitR 5 .a)) s

/-- `BIT 6,B`, 0xCB 0x70 (R210): 2 m-cycles. -/
def execBit6B (s : State) : Host.Outcome State Fault Refusal := handler (prefixed (bitR 6 .b)) s

/-- `BIT 6,C`, 0xCB 0x71 (R210): 2 m-cycles. -/
def execBit6C (s : State) : Host.Outcome State Fault Refusal := handler (prefixed (bitR 6 .c)) s

/-- `BIT 6,D`, 0xCB 0x72 (R210): 2 m-cycles. -/
def execBit6D (s : State) : Host.Outcome State Fault Refusal := handler (prefixed (bitR 6 .d)) s

/-- `BIT 6,E`, 0xCB 0x73 (R210): 2 m-cycles. -/
def execBit6E (s : State) : Host.Outcome State Fault Refusal := handler (prefixed (bitR 6 .e)) s

/-- `BIT 6,H`, 0xCB 0x74 (R210): 2 m-cycles. -/
def execBit6H (s : State) : Host.Outcome State Fault Refusal := handler (prefixed (bitR 6 .h)) s

/-- `BIT 6,L`, 0xCB 0x75 (R210): 2 m-cycles. -/
def execBit6L (s : State) : Host.Outcome State Fault Refusal := handler (prefixed (bitR 6 .l)) s

/-- `BIT 6,(HL)`, 0xCB 0x76 (R211): 3 m-cycles. -/
def execBit6MemHl (s : State) : Host.Outcome State Fault Refusal := handler (prefixed (bitMemHl 6)) s

/-- `BIT 6,A`, 0xCB 0x77 (R210): 2 m-cycles. -/
def execBit6A (s : State) : Host.Outcome State Fault Refusal := handler (prefixed (bitR 6 .a)) s

/-- `BIT 7,B`, 0xCB 0x78 (R210): 2 m-cycles. -/
def execBit7B (s : State) : Host.Outcome State Fault Refusal := handler (prefixed (bitR 7 .b)) s

/-- `BIT 7,C`, 0xCB 0x79 (R210): 2 m-cycles. -/
def execBit7C (s : State) : Host.Outcome State Fault Refusal := handler (prefixed (bitR 7 .c)) s

/-- `BIT 7,D`, 0xCB 0x7A (R210): 2 m-cycles. -/
def execBit7D (s : State) : Host.Outcome State Fault Refusal := handler (prefixed (bitR 7 .d)) s

/-- `BIT 7,E`, 0xCB 0x7B (R210): 2 m-cycles. -/
def execBit7E (s : State) : Host.Outcome State Fault Refusal := handler (prefixed (bitR 7 .e)) s

/-- `BIT 7,H`, 0xCB 0x7C (R210): 2 m-cycles. -/
def execBit7H (s : State) : Host.Outcome State Fault Refusal := handler (prefixed (bitR 7 .h)) s

/-- `BIT 7,L`, 0xCB 0x7D (R210): 2 m-cycles. -/
def execBit7L (s : State) : Host.Outcome State Fault Refusal := handler (prefixed (bitR 7 .l)) s

/-- `BIT 7,(HL)`, 0xCB 0x7E (R211): 3 m-cycles. -/
def execBit7MemHl (s : State) : Host.Outcome State Fault Refusal := handler (prefixed (bitMemHl 7)) s

/-- `BIT 7,A`, 0xCB 0x7F (R210): 2 m-cycles. -/
def execBit7A (s : State) : Host.Outcome State Fault Refusal := handler (prefixed (bitR 7 .a)) s

/-- `RES 0,B`, 0xCB 0x80 (R212): 2 m-cycles. -/
def execRes0B (s : State) : Host.Outcome State Fault Refusal := handler (prefixed (resR 0 .b)) s

/-- `RES 0,C`, 0xCB 0x81 (R212): 2 m-cycles. -/
def execRes0C (s : State) : Host.Outcome State Fault Refusal := handler (prefixed (resR 0 .c)) s

/-- `RES 0,D`, 0xCB 0x82 (R212): 2 m-cycles. -/
def execRes0D (s : State) : Host.Outcome State Fault Refusal := handler (prefixed (resR 0 .d)) s

/-- `RES 0,E`, 0xCB 0x83 (R212): 2 m-cycles. -/
def execRes0E (s : State) : Host.Outcome State Fault Refusal := handler (prefixed (resR 0 .e)) s

/-- `RES 0,H`, 0xCB 0x84 (R212): 2 m-cycles. -/
def execRes0H (s : State) : Host.Outcome State Fault Refusal := handler (prefixed (resR 0 .h)) s

/-- `RES 0,L`, 0xCB 0x85 (R212): 2 m-cycles. -/
def execRes0L (s : State) : Host.Outcome State Fault Refusal := handler (prefixed (resR 0 .l)) s

/-- `RES 0,(HL)`, 0xCB 0x86 (R213): 4 m-cycles. -/
def execRes0MemHl (s : State) : Host.Outcome State Fault Refusal := handler (prefixed (resMemHl 0)) s

/-- `RES 0,A`, 0xCB 0x87 (R212): 2 m-cycles. -/
def execRes0A (s : State) : Host.Outcome State Fault Refusal := handler (prefixed (resR 0 .a)) s

/-- `RES 1,B`, 0xCB 0x88 (R212): 2 m-cycles. -/
def execRes1B (s : State) : Host.Outcome State Fault Refusal := handler (prefixed (resR 1 .b)) s

/-- `RES 1,C`, 0xCB 0x89 (R212): 2 m-cycles. -/
def execRes1C (s : State) : Host.Outcome State Fault Refusal := handler (prefixed (resR 1 .c)) s

/-- `RES 1,D`, 0xCB 0x8A (R212): 2 m-cycles. -/
def execRes1D (s : State) : Host.Outcome State Fault Refusal := handler (prefixed (resR 1 .d)) s

/-- `RES 1,E`, 0xCB 0x8B (R212): 2 m-cycles. -/
def execRes1E (s : State) : Host.Outcome State Fault Refusal := handler (prefixed (resR 1 .e)) s

/-- `RES 1,H`, 0xCB 0x8C (R212): 2 m-cycles. -/
def execRes1H (s : State) : Host.Outcome State Fault Refusal := handler (prefixed (resR 1 .h)) s

/-- `RES 1,L`, 0xCB 0x8D (R212): 2 m-cycles. -/
def execRes1L (s : State) : Host.Outcome State Fault Refusal := handler (prefixed (resR 1 .l)) s

/-- `RES 1,(HL)`, 0xCB 0x8E (R213): 4 m-cycles. -/
def execRes1MemHl (s : State) : Host.Outcome State Fault Refusal := handler (prefixed (resMemHl 1)) s

/-- `RES 1,A`, 0xCB 0x8F (R212): 2 m-cycles. -/
def execRes1A (s : State) : Host.Outcome State Fault Refusal := handler (prefixed (resR 1 .a)) s

/-- `RES 2,B`, 0xCB 0x90 (R212): 2 m-cycles. -/
def execRes2B (s : State) : Host.Outcome State Fault Refusal := handler (prefixed (resR 2 .b)) s

/-- `RES 2,C`, 0xCB 0x91 (R212): 2 m-cycles. -/
def execRes2C (s : State) : Host.Outcome State Fault Refusal := handler (prefixed (resR 2 .c)) s

/-- `RES 2,D`, 0xCB 0x92 (R212): 2 m-cycles. -/
def execRes2D (s : State) : Host.Outcome State Fault Refusal := handler (prefixed (resR 2 .d)) s

/-- `RES 2,E`, 0xCB 0x93 (R212): 2 m-cycles. -/
def execRes2E (s : State) : Host.Outcome State Fault Refusal := handler (prefixed (resR 2 .e)) s

/-- `RES 2,H`, 0xCB 0x94 (R212): 2 m-cycles. -/
def execRes2H (s : State) : Host.Outcome State Fault Refusal := handler (prefixed (resR 2 .h)) s

/-- `RES 2,L`, 0xCB 0x95 (R212): 2 m-cycles. -/
def execRes2L (s : State) : Host.Outcome State Fault Refusal := handler (prefixed (resR 2 .l)) s

/-- `RES 2,(HL)`, 0xCB 0x96 (R213): 4 m-cycles. -/
def execRes2MemHl (s : State) : Host.Outcome State Fault Refusal := handler (prefixed (resMemHl 2)) s

/-- `RES 2,A`, 0xCB 0x97 (R212): 2 m-cycles. -/
def execRes2A (s : State) : Host.Outcome State Fault Refusal := handler (prefixed (resR 2 .a)) s

/-- `RES 3,B`, 0xCB 0x98 (R212): 2 m-cycles. -/
def execRes3B (s : State) : Host.Outcome State Fault Refusal := handler (prefixed (resR 3 .b)) s

/-- `RES 3,C`, 0xCB 0x99 (R212): 2 m-cycles. -/
def execRes3C (s : State) : Host.Outcome State Fault Refusal := handler (prefixed (resR 3 .c)) s

/-- `RES 3,D`, 0xCB 0x9A (R212): 2 m-cycles. -/
def execRes3D (s : State) : Host.Outcome State Fault Refusal := handler (prefixed (resR 3 .d)) s

/-- `RES 3,E`, 0xCB 0x9B (R212): 2 m-cycles. -/
def execRes3E (s : State) : Host.Outcome State Fault Refusal := handler (prefixed (resR 3 .e)) s

/-- `RES 3,H`, 0xCB 0x9C (R212): 2 m-cycles. -/
def execRes3H (s : State) : Host.Outcome State Fault Refusal := handler (prefixed (resR 3 .h)) s

/-- `RES 3,L`, 0xCB 0x9D (R212): 2 m-cycles. -/
def execRes3L (s : State) : Host.Outcome State Fault Refusal := handler (prefixed (resR 3 .l)) s

/-- `RES 3,(HL)`, 0xCB 0x9E (R213): 4 m-cycles. -/
def execRes3MemHl (s : State) : Host.Outcome State Fault Refusal := handler (prefixed (resMemHl 3)) s

/-- `RES 3,A`, 0xCB 0x9F (R212): 2 m-cycles. -/
def execRes3A (s : State) : Host.Outcome State Fault Refusal := handler (prefixed (resR 3 .a)) s

/-- `RES 4,B`, 0xCB 0xA0 (R212): 2 m-cycles. -/
def execRes4B (s : State) : Host.Outcome State Fault Refusal := handler (prefixed (resR 4 .b)) s

/-- `RES 4,C`, 0xCB 0xA1 (R212): 2 m-cycles. -/
def execRes4C (s : State) : Host.Outcome State Fault Refusal := handler (prefixed (resR 4 .c)) s

/-- `RES 4,D`, 0xCB 0xA2 (R212): 2 m-cycles. -/
def execRes4D (s : State) : Host.Outcome State Fault Refusal := handler (prefixed (resR 4 .d)) s

/-- `RES 4,E`, 0xCB 0xA3 (R212): 2 m-cycles. -/
def execRes4E (s : State) : Host.Outcome State Fault Refusal := handler (prefixed (resR 4 .e)) s

/-- `RES 4,H`, 0xCB 0xA4 (R212): 2 m-cycles. -/
def execRes4H (s : State) : Host.Outcome State Fault Refusal := handler (prefixed (resR 4 .h)) s

/-- `RES 4,L`, 0xCB 0xA5 (R212): 2 m-cycles. -/
def execRes4L (s : State) : Host.Outcome State Fault Refusal := handler (prefixed (resR 4 .l)) s

/-- `RES 4,(HL)`, 0xCB 0xA6 (R213): 4 m-cycles. -/
def execRes4MemHl (s : State) : Host.Outcome State Fault Refusal := handler (prefixed (resMemHl 4)) s

/-- `RES 4,A`, 0xCB 0xA7 (R212): 2 m-cycles. -/
def execRes4A (s : State) : Host.Outcome State Fault Refusal := handler (prefixed (resR 4 .a)) s

/-- `RES 5,B`, 0xCB 0xA8 (R212): 2 m-cycles. -/
def execRes5B (s : State) : Host.Outcome State Fault Refusal := handler (prefixed (resR 5 .b)) s

/-- `RES 5,C`, 0xCB 0xA9 (R212): 2 m-cycles. -/
def execRes5C (s : State) : Host.Outcome State Fault Refusal := handler (prefixed (resR 5 .c)) s

/-- `RES 5,D`, 0xCB 0xAA (R212): 2 m-cycles. -/
def execRes5D (s : State) : Host.Outcome State Fault Refusal := handler (prefixed (resR 5 .d)) s

/-- `RES 5,E`, 0xCB 0xAB (R212): 2 m-cycles. -/
def execRes5E (s : State) : Host.Outcome State Fault Refusal := handler (prefixed (resR 5 .e)) s

/-- `RES 5,H`, 0xCB 0xAC (R212): 2 m-cycles. -/
def execRes5H (s : State) : Host.Outcome State Fault Refusal := handler (prefixed (resR 5 .h)) s

/-- `RES 5,L`, 0xCB 0xAD (R212): 2 m-cycles. -/
def execRes5L (s : State) : Host.Outcome State Fault Refusal := handler (prefixed (resR 5 .l)) s

/-- `RES 5,(HL)`, 0xCB 0xAE (R213): 4 m-cycles. -/
def execRes5MemHl (s : State) : Host.Outcome State Fault Refusal := handler (prefixed (resMemHl 5)) s

/-- `RES 5,A`, 0xCB 0xAF (R212): 2 m-cycles. -/
def execRes5A (s : State) : Host.Outcome State Fault Refusal := handler (prefixed (resR 5 .a)) s

/-- `RES 6,B`, 0xCB 0xB0 (R212): 2 m-cycles. -/
def execRes6B (s : State) : Host.Outcome State Fault Refusal := handler (prefixed (resR 6 .b)) s

/-- `RES 6,C`, 0xCB 0xB1 (R212): 2 m-cycles. -/
def execRes6C (s : State) : Host.Outcome State Fault Refusal := handler (prefixed (resR 6 .c)) s

/-- `RES 6,D`, 0xCB 0xB2 (R212): 2 m-cycles. -/
def execRes6D (s : State) : Host.Outcome State Fault Refusal := handler (prefixed (resR 6 .d)) s

/-- `RES 6,E`, 0xCB 0xB3 (R212): 2 m-cycles. -/
def execRes6E (s : State) : Host.Outcome State Fault Refusal := handler (prefixed (resR 6 .e)) s

/-- `RES 6,H`, 0xCB 0xB4 (R212): 2 m-cycles. -/
def execRes6H (s : State) : Host.Outcome State Fault Refusal := handler (prefixed (resR 6 .h)) s

/-- `RES 6,L`, 0xCB 0xB5 (R212): 2 m-cycles. -/
def execRes6L (s : State) : Host.Outcome State Fault Refusal := handler (prefixed (resR 6 .l)) s

/-- `RES 6,(HL)`, 0xCB 0xB6 (R213): 4 m-cycles. -/
def execRes6MemHl (s : State) : Host.Outcome State Fault Refusal := handler (prefixed (resMemHl 6)) s

/-- `RES 6,A`, 0xCB 0xB7 (R212): 2 m-cycles. -/
def execRes6A (s : State) : Host.Outcome State Fault Refusal := handler (prefixed (resR 6 .a)) s

/-- `RES 7,B`, 0xCB 0xB8 (R212): 2 m-cycles. -/
def execRes7B (s : State) : Host.Outcome State Fault Refusal := handler (prefixed (resR 7 .b)) s

/-- `RES 7,C`, 0xCB 0xB9 (R212): 2 m-cycles. -/
def execRes7C (s : State) : Host.Outcome State Fault Refusal := handler (prefixed (resR 7 .c)) s

/-- `RES 7,D`, 0xCB 0xBA (R212): 2 m-cycles. -/
def execRes7D (s : State) : Host.Outcome State Fault Refusal := handler (prefixed (resR 7 .d)) s

/-- `RES 7,E`, 0xCB 0xBB (R212): 2 m-cycles. -/
def execRes7E (s : State) : Host.Outcome State Fault Refusal := handler (prefixed (resR 7 .e)) s

/-- `RES 7,H`, 0xCB 0xBC (R212): 2 m-cycles. -/
def execRes7H (s : State) : Host.Outcome State Fault Refusal := handler (prefixed (resR 7 .h)) s

/-- `RES 7,L`, 0xCB 0xBD (R212): 2 m-cycles. -/
def execRes7L (s : State) : Host.Outcome State Fault Refusal := handler (prefixed (resR 7 .l)) s

/-- `RES 7,(HL)`, 0xCB 0xBE (R213): 4 m-cycles. -/
def execRes7MemHl (s : State) : Host.Outcome State Fault Refusal := handler (prefixed (resMemHl 7)) s

/-- `RES 7,A`, 0xCB 0xBF (R212): 2 m-cycles. -/
def execRes7A (s : State) : Host.Outcome State Fault Refusal := handler (prefixed (resR 7 .a)) s

/-- `SET 0,B`, 0xCB 0xC0 (R214): 2 m-cycles. -/
def execSet0B (s : State) : Host.Outcome State Fault Refusal := handler (prefixed (setR 0 .b)) s

/-- `SET 0,C`, 0xCB 0xC1 (R214): 2 m-cycles. -/
def execSet0C (s : State) : Host.Outcome State Fault Refusal := handler (prefixed (setR 0 .c)) s

/-- `SET 0,D`, 0xCB 0xC2 (R214): 2 m-cycles. -/
def execSet0D (s : State) : Host.Outcome State Fault Refusal := handler (prefixed (setR 0 .d)) s

/-- `SET 0,E`, 0xCB 0xC3 (R214): 2 m-cycles. -/
def execSet0E (s : State) : Host.Outcome State Fault Refusal := handler (prefixed (setR 0 .e)) s

/-- `SET 0,H`, 0xCB 0xC4 (R214): 2 m-cycles. -/
def execSet0H (s : State) : Host.Outcome State Fault Refusal := handler (prefixed (setR 0 .h)) s

/-- `SET 0,L`, 0xCB 0xC5 (R214): 2 m-cycles. -/
def execSet0L (s : State) : Host.Outcome State Fault Refusal := handler (prefixed (setR 0 .l)) s

/-- `SET 0,(HL)`, 0xCB 0xC6 (R215): 4 m-cycles. -/
def execSet0MemHl (s : State) : Host.Outcome State Fault Refusal := handler (prefixed (setMemHl 0)) s

/-- `SET 0,A`, 0xCB 0xC7 (R214): 2 m-cycles. -/
def execSet0A (s : State) : Host.Outcome State Fault Refusal := handler (prefixed (setR 0 .a)) s

/-- `SET 1,B`, 0xCB 0xC8 (R214): 2 m-cycles. -/
def execSet1B (s : State) : Host.Outcome State Fault Refusal := handler (prefixed (setR 1 .b)) s

/-- `SET 1,C`, 0xCB 0xC9 (R214): 2 m-cycles. -/
def execSet1C (s : State) : Host.Outcome State Fault Refusal := handler (prefixed (setR 1 .c)) s

/-- `SET 1,D`, 0xCB 0xCA (R214): 2 m-cycles. -/
def execSet1D (s : State) : Host.Outcome State Fault Refusal := handler (prefixed (setR 1 .d)) s

/-- `SET 1,E`, 0xCB 0xCB (R214): 2 m-cycles. -/
def execSet1E (s : State) : Host.Outcome State Fault Refusal := handler (prefixed (setR 1 .e)) s

/-- `SET 1,H`, 0xCB 0xCC (R214): 2 m-cycles. -/
def execSet1H (s : State) : Host.Outcome State Fault Refusal := handler (prefixed (setR 1 .h)) s

/-- `SET 1,L`, 0xCB 0xCD (R214): 2 m-cycles. -/
def execSet1L (s : State) : Host.Outcome State Fault Refusal := handler (prefixed (setR 1 .l)) s

/-- `SET 1,(HL)`, 0xCB 0xCE (R215): 4 m-cycles. -/
def execSet1MemHl (s : State) : Host.Outcome State Fault Refusal := handler (prefixed (setMemHl 1)) s

/-- `SET 1,A`, 0xCB 0xCF (R214): 2 m-cycles. -/
def execSet1A (s : State) : Host.Outcome State Fault Refusal := handler (prefixed (setR 1 .a)) s

/-- `SET 2,B`, 0xCB 0xD0 (R214): 2 m-cycles. -/
def execSet2B (s : State) : Host.Outcome State Fault Refusal := handler (prefixed (setR 2 .b)) s

/-- `SET 2,C`, 0xCB 0xD1 (R214): 2 m-cycles. -/
def execSet2C (s : State) : Host.Outcome State Fault Refusal := handler (prefixed (setR 2 .c)) s

/-- `SET 2,D`, 0xCB 0xD2 (R214): 2 m-cycles. -/
def execSet2D (s : State) : Host.Outcome State Fault Refusal := handler (prefixed (setR 2 .d)) s

/-- `SET 2,E`, 0xCB 0xD3 (R214): 2 m-cycles. -/
def execSet2E (s : State) : Host.Outcome State Fault Refusal := handler (prefixed (setR 2 .e)) s

/-- `SET 2,H`, 0xCB 0xD4 (R214): 2 m-cycles. -/
def execSet2H (s : State) : Host.Outcome State Fault Refusal := handler (prefixed (setR 2 .h)) s

/-- `SET 2,L`, 0xCB 0xD5 (R214): 2 m-cycles. -/
def execSet2L (s : State) : Host.Outcome State Fault Refusal := handler (prefixed (setR 2 .l)) s

/-- `SET 2,(HL)`, 0xCB 0xD6 (R215): 4 m-cycles. -/
def execSet2MemHl (s : State) : Host.Outcome State Fault Refusal := handler (prefixed (setMemHl 2)) s

/-- `SET 2,A`, 0xCB 0xD7 (R214): 2 m-cycles. -/
def execSet2A (s : State) : Host.Outcome State Fault Refusal := handler (prefixed (setR 2 .a)) s

/-- `SET 3,B`, 0xCB 0xD8 (R214): 2 m-cycles. -/
def execSet3B (s : State) : Host.Outcome State Fault Refusal := handler (prefixed (setR 3 .b)) s

/-- `SET 3,C`, 0xCB 0xD9 (R214): 2 m-cycles. -/
def execSet3C (s : State) : Host.Outcome State Fault Refusal := handler (prefixed (setR 3 .c)) s

/-- `SET 3,D`, 0xCB 0xDA (R214): 2 m-cycles. -/
def execSet3D (s : State) : Host.Outcome State Fault Refusal := handler (prefixed (setR 3 .d)) s

/-- `SET 3,E`, 0xCB 0xDB (R214): 2 m-cycles. -/
def execSet3E (s : State) : Host.Outcome State Fault Refusal := handler (prefixed (setR 3 .e)) s

/-- `SET 3,H`, 0xCB 0xDC (R214): 2 m-cycles. -/
def execSet3H (s : State) : Host.Outcome State Fault Refusal := handler (prefixed (setR 3 .h)) s

/-- `SET 3,L`, 0xCB 0xDD (R214): 2 m-cycles. -/
def execSet3L (s : State) : Host.Outcome State Fault Refusal := handler (prefixed (setR 3 .l)) s

/-- `SET 3,(HL)`, 0xCB 0xDE (R215): 4 m-cycles. -/
def execSet3MemHl (s : State) : Host.Outcome State Fault Refusal := handler (prefixed (setMemHl 3)) s

/-- `SET 3,A`, 0xCB 0xDF (R214): 2 m-cycles. -/
def execSet3A (s : State) : Host.Outcome State Fault Refusal := handler (prefixed (setR 3 .a)) s

/-- `SET 4,B`, 0xCB 0xE0 (R214): 2 m-cycles. -/
def execSet4B (s : State) : Host.Outcome State Fault Refusal := handler (prefixed (setR 4 .b)) s

/-- `SET 4,C`, 0xCB 0xE1 (R214): 2 m-cycles. -/
def execSet4C (s : State) : Host.Outcome State Fault Refusal := handler (prefixed (setR 4 .c)) s

/-- `SET 4,D`, 0xCB 0xE2 (R214): 2 m-cycles. -/
def execSet4D (s : State) : Host.Outcome State Fault Refusal := handler (prefixed (setR 4 .d)) s

/-- `SET 4,E`, 0xCB 0xE3 (R214): 2 m-cycles. -/
def execSet4E (s : State) : Host.Outcome State Fault Refusal := handler (prefixed (setR 4 .e)) s

/-- `SET 4,H`, 0xCB 0xE4 (R214): 2 m-cycles. -/
def execSet4H (s : State) : Host.Outcome State Fault Refusal := handler (prefixed (setR 4 .h)) s

/-- `SET 4,L`, 0xCB 0xE5 (R214): 2 m-cycles. -/
def execSet4L (s : State) : Host.Outcome State Fault Refusal := handler (prefixed (setR 4 .l)) s

/-- `SET 4,(HL)`, 0xCB 0xE6 (R215): 4 m-cycles. -/
def execSet4MemHl (s : State) : Host.Outcome State Fault Refusal := handler (prefixed (setMemHl 4)) s

/-- `SET 4,A`, 0xCB 0xE7 (R214): 2 m-cycles. -/
def execSet4A (s : State) : Host.Outcome State Fault Refusal := handler (prefixed (setR 4 .a)) s

/-- `SET 5,B`, 0xCB 0xE8 (R214): 2 m-cycles. -/
def execSet5B (s : State) : Host.Outcome State Fault Refusal := handler (prefixed (setR 5 .b)) s

/-- `SET 5,C`, 0xCB 0xE9 (R214): 2 m-cycles. -/
def execSet5C (s : State) : Host.Outcome State Fault Refusal := handler (prefixed (setR 5 .c)) s

/-- `SET 5,D`, 0xCB 0xEA (R214): 2 m-cycles. -/
def execSet5D (s : State) : Host.Outcome State Fault Refusal := handler (prefixed (setR 5 .d)) s

/-- `SET 5,E`, 0xCB 0xEB (R214): 2 m-cycles. -/
def execSet5E (s : State) : Host.Outcome State Fault Refusal := handler (prefixed (setR 5 .e)) s

/-- `SET 5,H`, 0xCB 0xEC (R214): 2 m-cycles. -/
def execSet5H (s : State) : Host.Outcome State Fault Refusal := handler (prefixed (setR 5 .h)) s

/-- `SET 5,L`, 0xCB 0xED (R214): 2 m-cycles. -/
def execSet5L (s : State) : Host.Outcome State Fault Refusal := handler (prefixed (setR 5 .l)) s

/-- `SET 5,(HL)`, 0xCB 0xEE (R215): 4 m-cycles. -/
def execSet5MemHl (s : State) : Host.Outcome State Fault Refusal := handler (prefixed (setMemHl 5)) s

/-- `SET 5,A`, 0xCB 0xEF (R214): 2 m-cycles. -/
def execSet5A (s : State) : Host.Outcome State Fault Refusal := handler (prefixed (setR 5 .a)) s

/-- `SET 6,B`, 0xCB 0xF0 (R214): 2 m-cycles. -/
def execSet6B (s : State) : Host.Outcome State Fault Refusal := handler (prefixed (setR 6 .b)) s

/-- `SET 6,C`, 0xCB 0xF1 (R214): 2 m-cycles. -/
def execSet6C (s : State) : Host.Outcome State Fault Refusal := handler (prefixed (setR 6 .c)) s

/-- `SET 6,D`, 0xCB 0xF2 (R214): 2 m-cycles. -/
def execSet6D (s : State) : Host.Outcome State Fault Refusal := handler (prefixed (setR 6 .d)) s

/-- `SET 6,E`, 0xCB 0xF3 (R214): 2 m-cycles. -/
def execSet6E (s : State) : Host.Outcome State Fault Refusal := handler (prefixed (setR 6 .e)) s

/-- `SET 6,H`, 0xCB 0xF4 (R214): 2 m-cycles. -/
def execSet6H (s : State) : Host.Outcome State Fault Refusal := handler (prefixed (setR 6 .h)) s

/-- `SET 6,L`, 0xCB 0xF5 (R214): 2 m-cycles. -/
def execSet6L (s : State) : Host.Outcome State Fault Refusal := handler (prefixed (setR 6 .l)) s

/-- `SET 6,(HL)`, 0xCB 0xF6 (R215): 4 m-cycles. -/
def execSet6MemHl (s : State) : Host.Outcome State Fault Refusal := handler (prefixed (setMemHl 6)) s

/-- `SET 6,A`, 0xCB 0xF7 (R214): 2 m-cycles. -/
def execSet6A (s : State) : Host.Outcome State Fault Refusal := handler (prefixed (setR 6 .a)) s

/-- `SET 7,B`, 0xCB 0xF8 (R214): 2 m-cycles. -/
def execSet7B (s : State) : Host.Outcome State Fault Refusal := handler (prefixed (setR 7 .b)) s

/-- `SET 7,C`, 0xCB 0xF9 (R214): 2 m-cycles. -/
def execSet7C (s : State) : Host.Outcome State Fault Refusal := handler (prefixed (setR 7 .c)) s

/-- `SET 7,D`, 0xCB 0xFA (R214): 2 m-cycles. -/
def execSet7D (s : State) : Host.Outcome State Fault Refusal := handler (prefixed (setR 7 .d)) s

/-- `SET 7,E`, 0xCB 0xFB (R214): 2 m-cycles. -/
def execSet7E (s : State) : Host.Outcome State Fault Refusal := handler (prefixed (setR 7 .e)) s

/-- `SET 7,H`, 0xCB 0xFC (R214): 2 m-cycles. -/
def execSet7H (s : State) : Host.Outcome State Fault Refusal := handler (prefixed (setR 7 .h)) s

/-- `SET 7,L`, 0xCB 0xFD (R214): 2 m-cycles. -/
def execSet7L (s : State) : Host.Outcome State Fault Refusal := handler (prefixed (setR 7 .l)) s

/-- `SET 7,(HL)`, 0xCB 0xFE (R215): 4 m-cycles. -/
def execSet7MemHl (s : State) : Host.Outcome State Fault Refusal := handler (prefixed (setMemHl 7)) s

/-- `SET 7,A`, 0xCB 0xFF (R214): 2 m-cycles. -/
def execSet7A (s : State) : Host.Outcome State Fault Refusal := handler (prefixed (setR 7 .a)) s

end Sys2Proof.Machine
end

