-- ==== Sys2Proof/Machine/RotateShift.lean ====
section
/-! DEFINITION. Rotates and shifts (44_rotate_shift.md R180 to R200): the eight operations, the accumulator rotates, the
register and (HL) forms, then one meaning for each row. -/

namespace Sys2Proof.Machine

/-- The result `w` and the bit `c` that goes to carry, of each operation on `v` with the carry `old` before the
instruction (R184). -/
def rotResult (op : RotOp) (old : Bool) (v : Byte) : Byte × Bool :=
  match op with
  | .rlc => ((v <<< 1) ||| bitMask 0 (lastBit v), lastBit v)
  | .rrc => ((v >>> 1) ||| bitMask 7 (firstBit v), firstBit v)
  | .rl => ((v <<< 1) ||| bitMask 0 old, lastBit v)
  | .rr => ((v >>> 1) ||| bitMask 7 old, firstBit v)
  | .sla => (v <<< 1, lastBit v)
  | .sra => ((v >>> 1) ||| (v &&& 0x80#8), firstBit v)
  | .swap => (((v &&& 0x0F#8) <<< 4) ||| (v >>> 4), false)
  | .srl => (v >>> 1, firstBit v)

/-- RLCA, RRCA, RLA, RRA: the rotate of the same bits on A, with Z by `A_ROT_Z` (R180 to R183). -/
def rotA (op : RotOp) : Op Nat := do
  let s ← getState
  let res := rotResult op s.f.c s.a
  updateState fun s => { s with a := res.1 }
  setFlags (aRotFlags s.cfg.aRotZ s.f res.2)
  return 1

/-- A CB rotate or shift of a register (R185, R187, R189, R191, R193, R195, R197, R199). -/
def rotR (op : RotOp) (r : Reg8) : Op Nat := do
  let s ← getState
  let res := rotResult op s.f.c (s.getR8 r)
  updateState fun s => s.setR8 r res.1
  setFlags (shiftFlags res.1 res.2)
  return 1

/-- A CB rotate or shift of the byte at HL: read, write, then the flags (R186, R188, R190, R192, R194, R196, R198, R200). -/
def rotMemHl (op : RotOp) : Op Nat := do
  let s ← getState
  let v ← memRead s.hl
  let res := rotResult op s.f.c v
  memWrite s.hl res.1
  setFlags (shiftFlags res.1 res.2)
  return 3

/-- `RLCA`, 0x07 (R180): 1 m-cycle. -/
def execRlca (s : State) : Host.Outcome State Fault Refusal := handler (rotA .rlc) s

/-- `RRCA`, 0x0F (R181): 1 m-cycle. -/
def execRrca (s : State) : Host.Outcome State Fault Refusal := handler (rotA .rrc) s

/-- `RLA`, 0x17 (R182): 1 m-cycle. -/
def execRla (s : State) : Host.Outcome State Fault Refusal := handler (rotA .rl) s

/-- `RRA`, 0x1F (R183): 1 m-cycle. -/
def execRra (s : State) : Host.Outcome State Fault Refusal := handler (rotA .rr) s

/-- `RLC B`, 0xCB 0x00 (R185): 2 m-cycles. -/
def execRlcB (s : State) : Host.Outcome State Fault Refusal := handler (prefixed (rotR .rlc .b)) s

/-- `RLC C`, 0xCB 0x01 (R185): 2 m-cycles. -/
def execRlcC (s : State) : Host.Outcome State Fault Refusal := handler (prefixed (rotR .rlc .c)) s

/-- `RLC D`, 0xCB 0x02 (R185): 2 m-cycles. -/
def execRlcD (s : State) : Host.Outcome State Fault Refusal := handler (prefixed (rotR .rlc .d)) s

/-- `RLC E`, 0xCB 0x03 (R185): 2 m-cycles. -/
def execRlcE (s : State) : Host.Outcome State Fault Refusal := handler (prefixed (rotR .rlc .e)) s

/-- `RLC H`, 0xCB 0x04 (R185): 2 m-cycles. -/
def execRlcH (s : State) : Host.Outcome State Fault Refusal := handler (prefixed (rotR .rlc .h)) s

/-- `RLC L`, 0xCB 0x05 (R185): 2 m-cycles. -/
def execRlcL (s : State) : Host.Outcome State Fault Refusal := handler (prefixed (rotR .rlc .l)) s

/-- `RLC (HL)`, 0xCB 0x06 (R186): 4 m-cycles. -/
def execRlcMemHl (s : State) : Host.Outcome State Fault Refusal := handler (prefixed (rotMemHl .rlc)) s

/-- `RLC A`, 0xCB 0x07 (R185): 2 m-cycles. -/
def execRlcA (s : State) : Host.Outcome State Fault Refusal := handler (prefixed (rotR .rlc .a)) s

/-- `RRC B`, 0xCB 0x08 (R187): 2 m-cycles. -/
def execRrcB (s : State) : Host.Outcome State Fault Refusal := handler (prefixed (rotR .rrc .b)) s

/-- `RRC C`, 0xCB 0x09 (R187): 2 m-cycles. -/
def execRrcC (s : State) : Host.Outcome State Fault Refusal := handler (prefixed (rotR .rrc .c)) s

/-- `RRC D`, 0xCB 0x0A (R187): 2 m-cycles. -/
def execRrcD (s : State) : Host.Outcome State Fault Refusal := handler (prefixed (rotR .rrc .d)) s

/-- `RRC E`, 0xCB 0x0B (R187): 2 m-cycles. -/
def execRrcE (s : State) : Host.Outcome State Fault Refusal := handler (prefixed (rotR .rrc .e)) s

/-- `RRC H`, 0xCB 0x0C (R187): 2 m-cycles. -/
def execRrcH (s : State) : Host.Outcome State Fault Refusal := handler (prefixed (rotR .rrc .h)) s

/-- `RRC L`, 0xCB 0x0D (R187): 2 m-cycles. -/
def execRrcL (s : State) : Host.Outcome State Fault Refusal := handler (prefixed (rotR .rrc .l)) s

/-- `RRC (HL)`, 0xCB 0x0E (R188): 4 m-cycles. -/
def execRrcMemHl (s : State) : Host.Outcome State Fault Refusal := handler (prefixed (rotMemHl .rrc)) s

/-- `RRC A`, 0xCB 0x0F (R187): 2 m-cycles. -/
def execRrcA (s : State) : Host.Outcome State Fault Refusal := handler (prefixed (rotR .rrc .a)) s

/-- `RL B`, 0xCB 0x10 (R189): 2 m-cycles. -/
def execRlB (s : State) : Host.Outcome State Fault Refusal := handler (prefixed (rotR .rl .b)) s

/-- `RL C`, 0xCB 0x11 (R189): 2 m-cycles. -/
def execRlC (s : State) : Host.Outcome State Fault Refusal := handler (prefixed (rotR .rl .c)) s

/-- `RL D`, 0xCB 0x12 (R189): 2 m-cycles. -/
def execRlD (s : State) : Host.Outcome State Fault Refusal := handler (prefixed (rotR .rl .d)) s

/-- `RL E`, 0xCB 0x13 (R189): 2 m-cycles. -/
def execRlE (s : State) : Host.Outcome State Fault Refusal := handler (prefixed (rotR .rl .e)) s

/-- `RL H`, 0xCB 0x14 (R189): 2 m-cycles. -/
def execRlH (s : State) : Host.Outcome State Fault Refusal := handler (prefixed (rotR .rl .h)) s

/-- `RL L`, 0xCB 0x15 (R189): 2 m-cycles. -/
def execRlL (s : State) : Host.Outcome State Fault Refusal := handler (prefixed (rotR .rl .l)) s

/-- `RL (HL)`, 0xCB 0x16 (R190): 4 m-cycles. -/
def execRlMemHl (s : State) : Host.Outcome State Fault Refusal := handler (prefixed (rotMemHl .rl)) s

/-- `RL A`, 0xCB 0x17 (R189): 2 m-cycles. -/
def execRlA (s : State) : Host.Outcome State Fault Refusal := handler (prefixed (rotR .rl .a)) s

/-- `RR B`, 0xCB 0x18 (R191): 2 m-cycles. -/
def execRrB (s : State) : Host.Outcome State Fault Refusal := handler (prefixed (rotR .rr .b)) s

/-- `RR C`, 0xCB 0x19 (R191): 2 m-cycles. -/
def execRrC (s : State) : Host.Outcome State Fault Refusal := handler (prefixed (rotR .rr .c)) s

/-- `RR D`, 0xCB 0x1A (R191): 2 m-cycles. -/
def execRrD (s : State) : Host.Outcome State Fault Refusal := handler (prefixed (rotR .rr .d)) s

/-- `RR E`, 0xCB 0x1B (R191): 2 m-cycles. -/
def execRrE (s : State) : Host.Outcome State Fault Refusal := handler (prefixed (rotR .rr .e)) s

/-- `RR H`, 0xCB 0x1C (R191): 2 m-cycles. -/
def execRrH (s : State) : Host.Outcome State Fault Refusal := handler (prefixed (rotR .rr .h)) s

/-- `RR L`, 0xCB 0x1D (R191): 2 m-cycles. -/
def execRrL (s : State) : Host.Outcome State Fault Refusal := handler (prefixed (rotR .rr .l)) s

/-- `RR (HL)`, 0xCB 0x1E (R192): 4 m-cycles. -/
def execRrMemHl (s : State) : Host.Outcome State Fault Refusal := handler (prefixed (rotMemHl .rr)) s

/-- `RR A`, 0xCB 0x1F (R191): 2 m-cycles. -/
def execRrA (s : State) : Host.Outcome State Fault Refusal := handler (prefixed (rotR .rr .a)) s

/-- `SLA B`, 0xCB 0x20 (R193): 2 m-cycles. -/
def execSlaB (s : State) : Host.Outcome State Fault Refusal := handler (prefixed (rotR .sla .b)) s

/-- `SLA C`, 0xCB 0x21 (R193): 2 m-cycles. -/
def execSlaC (s : State) : Host.Outcome State Fault Refusal := handler (prefixed (rotR .sla .c)) s

/-- `SLA D`, 0xCB 0x22 (R193): 2 m-cycles. -/
def execSlaD (s : State) : Host.Outcome State Fault Refusal := handler (prefixed (rotR .sla .d)) s

/-- `SLA E`, 0xCB 0x23 (R193): 2 m-cycles. -/
def execSlaE (s : State) : Host.Outcome State Fault Refusal := handler (prefixed (rotR .sla .e)) s

/-- `SLA H`, 0xCB 0x24 (R193): 2 m-cycles. -/
def execSlaH (s : State) : Host.Outcome State Fault Refusal := handler (prefixed (rotR .sla .h)) s

/-- `SLA L`, 0xCB 0x25 (R193): 2 m-cycles. -/
def execSlaL (s : State) : Host.Outcome State Fault Refusal := handler (prefixed (rotR .sla .l)) s

/-- `SLA (HL)`, 0xCB 0x26 (R194): 4 m-cycles. -/
def execSlaMemHl (s : State) : Host.Outcome State Fault Refusal := handler (prefixed (rotMemHl .sla)) s

/-- `SLA A`, 0xCB 0x27 (R193): 2 m-cycles. -/
def execSlaA (s : State) : Host.Outcome State Fault Refusal := handler (prefixed (rotR .sla .a)) s

/-- `SRA B`, 0xCB 0x28 (R195): 2 m-cycles. -/
def execSraB (s : State) : Host.Outcome State Fault Refusal := handler (prefixed (rotR .sra .b)) s

/-- `SRA C`, 0xCB 0x29 (R195): 2 m-cycles. -/
def execSraC (s : State) : Host.Outcome State Fault Refusal := handler (prefixed (rotR .sra .c)) s

/-- `SRA D`, 0xCB 0x2A (R195): 2 m-cycles. -/
def execSraD (s : State) : Host.Outcome State Fault Refusal := handler (prefixed (rotR .sra .d)) s

/-- `SRA E`, 0xCB 0x2B (R195): 2 m-cycles. -/
def execSraE (s : State) : Host.Outcome State Fault Refusal := handler (prefixed (rotR .sra .e)) s

/-- `SRA H`, 0xCB 0x2C (R195): 2 m-cycles. -/
def execSraH (s : State) : Host.Outcome State Fault Refusal := handler (prefixed (rotR .sra .h)) s

/-- `SRA L`, 0xCB 0x2D (R195): 2 m-cycles. -/
def execSraL (s : State) : Host.Outcome State Fault Refusal := handler (prefixed (rotR .sra .l)) s

/-- `SRA (HL)`, 0xCB 0x2E (R196): 4 m-cycles. -/
def execSraMemHl (s : State) : Host.Outcome State Fault Refusal := handler (prefixed (rotMemHl .sra)) s

/-- `SRA A`, 0xCB 0x2F (R195): 2 m-cycles. -/
def execSraA (s : State) : Host.Outcome State Fault Refusal := handler (prefixed (rotR .sra .a)) s

/-- `SWAP B`, 0xCB 0x30 (R197): 2 m-cycles. -/
def execSwapB (s : State) : Host.Outcome State Fault Refusal := handler (prefixed (rotR .swap .b)) s

/-- `SWAP C`, 0xCB 0x31 (R197): 2 m-cycles. -/
def execSwapC (s : State) : Host.Outcome State Fault Refusal := handler (prefixed (rotR .swap .c)) s

/-- `SWAP D`, 0xCB 0x32 (R197): 2 m-cycles. -/
def execSwapD (s : State) : Host.Outcome State Fault Refusal := handler (prefixed (rotR .swap .d)) s

/-- `SWAP E`, 0xCB 0x33 (R197): 2 m-cycles. -/
def execSwapE (s : State) : Host.Outcome State Fault Refusal := handler (prefixed (rotR .swap .e)) s

/-- `SWAP H`, 0xCB 0x34 (R197): 2 m-cycles. -/
def execSwapH (s : State) : Host.Outcome State Fault Refusal := handler (prefixed (rotR .swap .h)) s

/-- `SWAP L`, 0xCB 0x35 (R197): 2 m-cycles. -/
def execSwapL (s : State) : Host.Outcome State Fault Refusal := handler (prefixed (rotR .swap .l)) s

/-- `SWAP (HL)`, 0xCB 0x36 (R198): 4 m-cycles. -/
def execSwapMemHl (s : State) : Host.Outcome State Fault Refusal := handler (prefixed (rotMemHl .swap)) s

/-- `SWAP A`, 0xCB 0x37 (R197): 2 m-cycles. -/
def execSwapA (s : State) : Host.Outcome State Fault Refusal := handler (prefixed (rotR .swap .a)) s

/-- `SRL B`, 0xCB 0x38 (R199): 2 m-cycles. -/
def execSrlB (s : State) : Host.Outcome State Fault Refusal := handler (prefixed (rotR .srl .b)) s

/-- `SRL C`, 0xCB 0x39 (R199): 2 m-cycles. -/
def execSrlC (s : State) : Host.Outcome State Fault Refusal := handler (prefixed (rotR .srl .c)) s

/-- `SRL D`, 0xCB 0x3A (R199): 2 m-cycles. -/
def execSrlD (s : State) : Host.Outcome State Fault Refusal := handler (prefixed (rotR .srl .d)) s

/-- `SRL E`, 0xCB 0x3B (R199): 2 m-cycles. -/
def execSrlE (s : State) : Host.Outcome State Fault Refusal := handler (prefixed (rotR .srl .e)) s

/-- `SRL H`, 0xCB 0x3C (R199): 2 m-cycles. -/
def execSrlH (s : State) : Host.Outcome State Fault Refusal := handler (prefixed (rotR .srl .h)) s

/-- `SRL L`, 0xCB 0x3D (R199): 2 m-cycles. -/
def execSrlL (s : State) : Host.Outcome State Fault Refusal := handler (prefixed (rotR .srl .l)) s

/-- `SRL (HL)`, 0xCB 0x3E (R200): 4 m-cycles. -/
def execSrlMemHl (s : State) : Host.Outcome State Fault Refusal := handler (prefixed (rotMemHl .srl)) s

/-- `SRL A`, 0xCB 0x3F (R199): 2 m-cycles. -/
def execSrlA (s : State) : Host.Outcome State Fault Refusal := handler (prefixed (rotR .srl .a)) s

end Sys2Proof.Machine
end

