-- ==== Sys2Proof/Machine/CbTable.lean ====
section
/-! DEFINITION. The CB table's handlers by the fields of the CB byte (30_encoding.md R71, R72, R76), and PREFIX CB, the
primary handler that dispatches through them (48_misc.md R259). The rows of the CB grid have their own meanings in
RotateShift.lean and Bit.lean. -/

namespace Sys2Proof.Machine

/-- The target of a CB byte's field `z`: a register, or the byte at HL for 6 (30_encoding.md R72). -/
def cbTarget (z : Fin 8) : Option Reg8 :=
  [some .b, some .c, some .d, some .e, some .h, some .l, none, some .a].get z

/-- The rotate or shift of field `y` (30_encoding.md R76). -/
def cbRotOp (y : Fin 8) : RotOp := [.rlc, .rrc, .rl, .rr, .sla, .sra, .swap, .srl].get y

/-- `CB[cb]` on a register target: `x` selects rotate or shift, BIT, RES, SET (30_encoding.md R76). -/
def cbHandlerR (x : Nat) (y : Fin 8) (r : Reg8) : Op Nat :=
  match x with
  | 0 => rotR (cbRotOp y) r
  | 1 => bitR y r
  | 2 => resR y r
  | _ => setR y r

/-- `CB[cb]` on the byte at HL (30_encoding.md R76). -/
def cbHandlerMemHl (x : Nat) (y : Fin 8) : Op Nat :=
  match x with
  | 0 => rotMemHl (cbRotOp y)
  | 1 => bitMemHl y
  | 2 => resMemHl y
  | _ => setMemHl y

/-- `CB[cb]`, by the fields `x = cb[7:6]`, `y = cb[5:3]`, `z = cb[2:0]` (30_encoding.md R71, R76). -/
def cbHandler (cb : Byte) : Op Nat :=
  match cbTarget (cb.extractLsb' 0 3).toFin with
  | some r => cbHandlerR (cb.extractLsb' 6 2).toNat (cb.extractLsb' 3 3).toFin r
  | none => cbHandlerMemHl (cb.extractLsb' 6 2).toNat (cb.extractLsb' 3 3).toFin

/-- `PREFIX CB`: the CB byte is already fetched (R259, log entry 8). -/
def prefixCb (cb : Byte) : Op Nat := prefixed (cbHandler cb)

/-- `PREFIX CB`, 0xCB (R259): 1 plus the CB handler's count. -/
def execPrefixCb (cb : Byte) (s : State) : Host.Outcome State Fault Refusal := handler (prefixCb cb) s

end Sys2Proof.Machine
end

