-- ==== Sys2Proof/Machine/Control.lean ====
section
/-! DEFINITION. Control transfer (46_control.md R220 to R231): the shared operations, then one meaning for each row.
No control transfer writes a flag; PC is already past the operand bytes (R220). -/

namespace Sys2Proof.Machine

/-- `PC <- target` (00_scope.md R7). -/
def jumpTo (target : Word) : Op Unit := updateState fun s => { s with pc := target }

/-- `Push16(PC) ; PC <- target` (R226, R231). -/
def callTo (target : Word) : Op Unit := do
  let s ← getState
  push16 s.pc
  jumpTo target

/-- `PC <- Pop16()` (R228). -/
def returnTo : Op Unit := do
  let target ← pop16
  jumpTo target

/-- `if Cond(cc): the transfer, the larger count; else: nothing, the smaller count` (R220). -/
def conditional (cc : Cond) (transfer : Op Unit) (taken notTaken : Nat) : Op Nat := do
  let s ← getState
  if s.f.holds cc then do
    transfer
    return taken
  else return notTaken

/-- `PC + sext_16(e)`, PC already past the two bytes (R224, D21). -/
def jumpRelative (e : Byte) : Op Unit := updateState fun s => { s with pc := s.pc + sext16 e }

/-- `JP a16` (R221). -/
def jpA16 (addr : Word) : Op Nat := do
  jumpTo addr
  return 4

/-- `JP cc,a16` (R222). -/
def jpCcA16 (cc : Cond) (addr : Word) : Op Nat := conditional cc (jumpTo addr) 4 3

/-- `JP HL`: no memory read (R223). -/
def jpHl : Op Nat := do
  let s ← getState
  jumpTo s.hl
  return 1

/-- `JR e8` (R224). -/
def jrE8 (e : Byte) : Op Nat := do
  jumpRelative e
  return 3

/-- `JR cc,e8` (R225). -/
def jrCcE8 (cc : Cond) (e : Byte) : Op Nat := conditional cc (jumpRelative e) 3 2

/-- `CALL a16` (R226). -/
def callA16 (addr : Word) : Op Nat := do
  callTo addr
  return 6

/-- `CALL cc,a16` (R227). -/
def callCcA16 (cc : Cond) (addr : Word) : Op Nat := conditional cc (callTo addr) 6 3

/-- `RET` (R228). -/
def ret : Op Nat := do
  returnTo
  return 4

/-- `RET cc` (R229). -/
def retCc (cc : Cond) : Op Nat := conditional cc returnTo 5 2

/-- `RETI` (R230). -/
def reti : Op Nat := do
  interruptReturn
  return 4

/-- The RST target `y × 8` (30_encoding.md R76). -/
def rstTarget (y : Fin 8) : Word := BitVec.ofNat 16 (y.val * 8)

/-- `RST n` (R231). -/
def rst (y : Fin 8) : Op Nat := do
  callTo (rstTarget y)
  return 4

/-- `JR e8`, 0x18 (R224): 3 m-cycles. -/
def execJrE8 (e : Byte) (s : State) : Host.Outcome State Fault Refusal := handler (jrE8 e) s

/-- `JR NZ,e8`, 0x20 (R225): 3 m-cycles taken, 2 not taken. -/
def execJrNzE8 (e : Byte) (s : State) : Host.Outcome State Fault Refusal := handler (jrCcE8 .nz e) s

/-- `JR Z,e8`, 0x28 (R225): 3 m-cycles taken, 2 not taken. -/
def execJrZE8 (e : Byte) (s : State) : Host.Outcome State Fault Refusal := handler (jrCcE8 .z e) s

/-- `JR NC,e8`, 0x30 (R225): 3 m-cycles taken, 2 not taken. -/
def execJrNcE8 (e : Byte) (s : State) : Host.Outcome State Fault Refusal := handler (jrCcE8 .nc e) s

/-- `JR C,e8`, 0x38 (R225): 3 m-cycles taken, 2 not taken. -/
def execJrCE8 (e : Byte) (s : State) : Host.Outcome State Fault Refusal := handler (jrCcE8 .c e) s

/-- `RET NZ`, 0xC0 (R229): 5 m-cycles taken, 2 not taken. -/
def execRetNz (s : State) : Host.Outcome State Fault Refusal := handler (retCc .nz) s

/-- `JP NZ,a16`, 0xC2 (R222): 4 m-cycles taken, 3 not taken. -/
def execJpNzA16 (addr : Word) (s : State) : Host.Outcome State Fault Refusal := handler (jpCcA16 .nz addr) s

/-- `JP a16`, 0xC3 (R221): 4 m-cycles. -/
def execJpA16 (addr : Word) (s : State) : Host.Outcome State Fault Refusal := handler (jpA16 addr) s

/-- `CALL NZ,a16`, 0xC4 (R227): 6 m-cycles taken, 3 not taken. -/
def execCallNzA16 (addr : Word) (s : State) : Host.Outcome State Fault Refusal := handler (callCcA16 .nz addr) s

/-- `RST 00H`, 0xC7 (R231): 4 m-cycles. -/
def execRst00H (s : State) : Host.Outcome State Fault Refusal := handler (rst 0) s

/-- `RET Z`, 0xC8 (R229): 5 m-cycles taken, 2 not taken. -/
def execRetZ (s : State) : Host.Outcome State Fault Refusal := handler (retCc .z) s

/-- `RET`, 0xC9 (R228): 4 m-cycles. -/
def execRet (s : State) : Host.Outcome State Fault Refusal := handler (ret) s

/-- `JP Z,a16`, 0xCA (R222): 4 m-cycles taken, 3 not taken. -/
def execJpZA16 (addr : Word) (s : State) : Host.Outcome State Fault Refusal := handler (jpCcA16 .z addr) s

/-- `CALL Z,a16`, 0xCC (R227): 6 m-cycles taken, 3 not taken. -/
def execCallZA16 (addr : Word) (s : State) : Host.Outcome State Fault Refusal := handler (callCcA16 .z addr) s

/-- `CALL a16`, 0xCD (R226): 6 m-cycles. -/
def execCallA16 (addr : Word) (s : State) : Host.Outcome State Fault Refusal := handler (callA16 addr) s

/-- `RST 08H`, 0xCF (R231): 4 m-cycles. -/
def execRst08H (s : State) : Host.Outcome State Fault Refusal := handler (rst 1) s

/-- `RET NC`, 0xD0 (R229): 5 m-cycles taken, 2 not taken. -/
def execRetNc (s : State) : Host.Outcome State Fault Refusal := handler (retCc .nc) s

/-- `JP NC,a16`, 0xD2 (R222): 4 m-cycles taken, 3 not taken. -/
def execJpNcA16 (addr : Word) (s : State) : Host.Outcome State Fault Refusal := handler (jpCcA16 .nc addr) s

/-- `CALL NC,a16`, 0xD4 (R227): 6 m-cycles taken, 3 not taken. -/
def execCallNcA16 (addr : Word) (s : State) : Host.Outcome State Fault Refusal := handler (callCcA16 .nc addr) s

/-- `RST 10H`, 0xD7 (R231): 4 m-cycles. -/
def execRst10H (s : State) : Host.Outcome State Fault Refusal := handler (rst 2) s

/-- `RET C`, 0xD8 (R229): 5 m-cycles taken, 2 not taken. -/
def execRetC (s : State) : Host.Outcome State Fault Refusal := handler (retCc .c) s

/-- `RETI`, 0xD9 (R230): 4 m-cycles. -/
def execReti (s : State) : Host.Outcome State Fault Refusal := handler (reti) s

/-- `JP C,a16`, 0xDA (R222): 4 m-cycles taken, 3 not taken. -/
def execJpCA16 (addr : Word) (s : State) : Host.Outcome State Fault Refusal := handler (jpCcA16 .c addr) s

/-- `CALL C,a16`, 0xDC (R227): 6 m-cycles taken, 3 not taken. -/
def execCallCA16 (addr : Word) (s : State) : Host.Outcome State Fault Refusal := handler (callCcA16 .c addr) s

/-- `RST 18H`, 0xDF (R231): 4 m-cycles. -/
def execRst18H (s : State) : Host.Outcome State Fault Refusal := handler (rst 3) s

/-- `RST 20H`, 0xE7 (R231): 4 m-cycles. -/
def execRst20H (s : State) : Host.Outcome State Fault Refusal := handler (rst 4) s

/-- `JP HL`, 0xE9 (R223): 1 m-cycle. -/
def execJpHl (s : State) : Host.Outcome State Fault Refusal := handler (jpHl) s

/-- `RST 28H`, 0xEF (R231): 4 m-cycles. -/
def execRst28H (s : State) : Host.Outcome State Fault Refusal := handler (rst 5) s

/-- `RST 30H`, 0xF7 (R231): 4 m-cycles. -/
def execRst30H (s : State) : Host.Outcome State Fault Refusal := handler (rst 6) s

/-- `RST 38H`, 0xFF (R231): 4 m-cycles. -/
def execRst38H (s : State) : Host.Outcome State Fault Refusal := handler (rst 7) s

end Sys2Proof.Machine
end

