-- ==== Sys2Proof/Machine/IncDec.lean ====
section
/-! DEFINITION. Increment and decrement (41_incdec.md R130 to R135): the shared operations, then one meaning for each row. -/

namespace Sys2Proof.Machine

/-- The flags of INC and DEC on a byte: Z of the result, N, H; C unchanged (R130, R131). -/
def incDecFlags (op : KernelOp) (v w : Byte) : Op Unit := do
  let h ← halfCarry op 8 v.toNat [1]
  updateState fun s =>
    { s with f := { z := decide (w = 0#8), n := decide (op = .sub), h := h, c := s.f.c } }

/-- `INC r` and `DEC r` (R130, R131). -/
def incDecR (op : KernelOp) (r : Reg8) : Op Nat := do
  let s ← getState
  let v := s.getR8 r
  let w := apply8 op v [1]
  updateState fun s => s.setR8 r w
  incDecFlags op v w
  return 1

/-- `INC (HL)` and `DEC (HL)`: read, write, then the flags (R132, R133, D28). -/
def incDecMemHl (op : KernelOp) : Op Nat := do
  let s ← getState
  let v ← memRead s.hl
  let w := apply8 op v [1]
  memWrite s.hl w
  incDecFlags op v w
  return 3

/-- `INC rr` and `DEC rr`: no flag (R134, R135). -/
def incDecRr (op : KernelOp) (rr : Reg16) : Op Nat := do
  updateState fun s => s.setR16 rr (apply16 op (s.getR16 rr) [1])
  return 2

/-- `INC r` (R130). -/
def incR (r : Reg8) : Op Nat := incDecR .add r

/-- `DEC r` (R131). -/
def decR (r : Reg8) : Op Nat := incDecR .sub r

/-- `INC (HL)` (R132). -/
def incMemHl : Op Nat := incDecMemHl .add

/-- `DEC (HL)` (R133). -/
def decMemHl : Op Nat := incDecMemHl .sub

/-- `INC rr` (R134). -/
def incRr (rr : Reg16) : Op Nat := incDecRr .add rr

/-- `DEC rr` (R135). -/
def decRr (rr : Reg16) : Op Nat := incDecRr .sub rr

/-- `INC BC`, 0x03 (R134): 2 m-cycles. -/
def execIncBc (s : State) : Host.Outcome State Fault Refusal := handler (incRr .bc) s

/-- `INC B`, 0x04 (R130): 1 m-cycle. -/
def execIncB (s : State) : Host.Outcome State Fault Refusal := handler (incR .b) s

/-- `DEC B`, 0x05 (R131): 1 m-cycle. -/
def execDecB (s : State) : Host.Outcome State Fault Refusal := handler (decR .b) s

/-- `DEC BC`, 0x0B (R135): 2 m-cycles. -/
def execDecBc (s : State) : Host.Outcome State Fault Refusal := handler (decRr .bc) s

/-- `INC C`, 0x0C (R130): 1 m-cycle. -/
def execIncC (s : State) : Host.Outcome State Fault Refusal := handler (incR .c) s

/-- `DEC C`, 0x0D (R131): 1 m-cycle. -/
def execDecC (s : State) : Host.Outcome State Fault Refusal := handler (decR .c) s

/-- `INC DE`, 0x13 (R134): 2 m-cycles. -/
def execIncDe (s : State) : Host.Outcome State Fault Refusal := handler (incRr .de) s

/-- `INC D`, 0x14 (R130): 1 m-cycle. -/
def execIncD (s : State) : Host.Outcome State Fault Refusal := handler (incR .d) s

/-- `DEC D`, 0x15 (R131): 1 m-cycle. -/
def execDecD (s : State) : Host.Outcome State Fault Refusal := handler (decR .d) s

/-- `DEC DE`, 0x1B (R135): 2 m-cycles. -/
def execDecDe (s : State) : Host.Outcome State Fault Refusal := handler (decRr .de) s

/-- `INC E`, 0x1C (R130): 1 m-cycle. -/
def execIncE (s : State) : Host.Outcome State Fault Refusal := handler (incR .e) s

/-- `DEC E`, 0x1D (R131): 1 m-cycle. -/
def execDecE (s : State) : Host.Outcome State Fault Refusal := handler (decR .e) s

/-- `INC HL`, 0x23 (R134): 2 m-cycles. -/
def execIncHl (s : State) : Host.Outcome State Fault Refusal := handler (incRr .hl) s

/-- `INC H`, 0x24 (R130): 1 m-cycle. -/
def execIncH (s : State) : Host.Outcome State Fault Refusal := handler (incR .h) s

/-- `DEC H`, 0x25 (R131): 1 m-cycle. -/
def execDecH (s : State) : Host.Outcome State Fault Refusal := handler (decR .h) s

/-- `DEC HL`, 0x2B (R135): 2 m-cycles. -/
def execDecHl (s : State) : Host.Outcome State Fault Refusal := handler (decRr .hl) s

/-- `INC L`, 0x2C (R130): 1 m-cycle. -/
def execIncL (s : State) : Host.Outcome State Fault Refusal := handler (incR .l) s

/-- `DEC L`, 0x2D (R131): 1 m-cycle. -/
def execDecL (s : State) : Host.Outcome State Fault Refusal := handler (decR .l) s

/-- `INC SP`, 0x33 (R134): 2 m-cycles. -/
def execIncSp (s : State) : Host.Outcome State Fault Refusal := handler (incRr .sp) s

/-- `INC (HL)`, 0x34 (R132): 3 m-cycles. -/
def execIncMemHl (s : State) : Host.Outcome State Fault Refusal := handler (incMemHl) s

/-- `DEC (HL)`, 0x35 (R133): 3 m-cycles. -/
def execDecMemHl (s : State) : Host.Outcome State Fault Refusal := handler (decMemHl) s

/-- `DEC SP`, 0x3B (R135): 2 m-cycles. -/
def execDecSp (s : State) : Host.Outcome State Fault Refusal := handler (decRr .sp) s

/-- `INC A`, 0x3C (R130): 1 m-cycle. -/
def execIncA (s : State) : Host.Outcome State Fault Refusal := handler (incR .a) s

/-- `DEC A`, 0x3D (R131): 1 m-cycle. -/
def execDecA (s : State) : Host.Outcome State Fault Refusal := handler (decR .a) s

end Sys2Proof.Machine
end

