-- ==== Sys2Proof/Machine/Loads.lean ====
section
/-! DEFINITION. Load instructions (40_loads.md R100 to R122): the shared operations, then one meaning for each row.
A load writes no flag (R100). Operand bytes are already fetched (log entry 8). -/

namespace Sys2Proof.Machine

/-- `LD r,r'` (R101). -/
def ldRR (dst src : Reg8) : Op Nat := do
  updateState fun s => s.setR8 dst (s.getR8 src)
  return 1

/-- `LD r,(HL)` (R102); the address is formed before the write. -/
def ldRMemHl (dst : Reg8) : Op Nat := do
  let s ← getState
  let v ← memRead s.hl
  updateState fun s => s.setR8 dst v
  return 2

/-- `LD (HL),r` (R103). -/
def ldMemHlR (src : Reg8) : Op Nat := do
  let s ← getState
  memWrite s.hl (s.getR8 src)
  return 2

/-- `LD r,d8` (R104). -/
def ldRD8 (dst : Reg8) (n : Byte) : Op Nat := do
  updateState fun s => s.setR8 dst n
  return 2

/-- `LD (HL),d8` (R105). -/
def ldMemHlD8 (n : Byte) : Op Nat := do
  let s ← getState
  memWrite s.hl n
  return 3

/-- `LD A,(BC)` and `LD A,(DE)` (R106, R107). -/
def ldAMemRr (rr : Reg16) : Op Nat := do
  let s ← getState
  let v ← memRead (s.getR16 rr)
  updateState fun s => { s with a := v }
  return 2

/-- `LD (BC),A` and `LD (DE),A` (R108, R109). -/
def ldMemRrA (rr : Reg16) : Op Nat := do
  let s ← getState
  memWrite (s.getR16 rr) s.a
  return 2

/-- `LD A,(HL+)` and `LD A,(HL-)`: HL moves by `delta` modulo 2^16 after the read (R110, R111). -/
def ldAMemHlStep (delta : Word) : Op Nat := do
  let s ← getState
  let v ← memRead s.hl
  updateState fun s => { s with a := v }
  updateState fun s => s.setHl (s.hl + delta)
  return 2

/-- `LD (HL+),A` and `LD (HL-),A` (R112, R113). -/
def ldMemHlStepA (delta : Word) : Op Nat := do
  let s ← getState
  memWrite s.hl s.a
  updateState fun s => s.setHl (s.hl + delta)
  return 2

/-- `LD A,(a16)` (R114). -/
def ldAMemA16 (addr : Word) : Op Nat := do
  let v ← memRead addr
  updateState fun s => { s with a := v }
  return 4

/-- `LD (a16),A` (R115). -/
def ldMemA16A (addr : Word) : Op Nat := do
  let s ← getState
  memWrite addr s.a
  return 4

/-- `LDH A,(a8)` (R116). -/
def ldhAMemA8 (n : Byte) : Op Nat := do
  let v ← memRead (highPage n)
  updateState fun s => { s with a := v }
  return 3

/-- `LDH (a8),A` (R117). -/
def ldhMemA8A (n : Byte) : Op Nat := do
  let s ← getState
  memWrite (highPage n) s.a
  return 3

/-- `LD A,(C)` (R118). -/
def ldAMemC : Op Nat := do
  let s ← getState
  let v ← memRead (highPage s.c)
  updateState fun s => { s with a := v }
  return 2

/-- `LD (C),A` (R119). -/
def ldMemCA : Op Nat := do
  let s ← getState
  memWrite (highPage s.c) s.a
  return 2

/-- `LD rr,d16` (R120). -/
def ldRrD16 (rr : Reg16) (nn : Word) : Op Nat := do
  updateState fun s => s.setR16 rr nn
  return 3

/-- `LD (a16),SP` (R121). -/
def ldMemA16Sp (addr : Word) : Op Nat := do
  let s ← getState
  memWrite16 addr s.sp
  return 5

/-- `LD SP,HL` (R122). -/
def ldSpHl : Op Nat := do
  updateState fun s => { s with sp := s.hl }
  return 2

/-- `LD BC,d16`, 0x01 (R120): 3 m-cycles. -/
def execLdBcD16 (nn : Word) (s : State) : Host.Outcome State Fault Refusal := handler (ldRrD16 .bc nn) s

/-- `LD (BC),A`, 0x02 (R108): 2 m-cycles. -/
def execLdMemBcA (s : State) : Host.Outcome State Fault Refusal := handler (ldMemRrA .bc) s

/-- `LD B,d8`, 0x06 (R104): 2 m-cycles. -/
def execLdBD8 (n : Byte) (s : State) : Host.Outcome State Fault Refusal := handler (ldRD8 .b n) s

/-- `LD (a16),SP`, 0x08 (R121): 5 m-cycles. -/
def execLdMemA16Sp (addr : Word) (s : State) : Host.Outcome State Fault Refusal := handler (ldMemA16Sp addr) s

/-- `LD A,(BC)`, 0x0A (R106): 2 m-cycles. -/
def execLdAMemBc (s : State) : Host.Outcome State Fault Refusal := handler (ldAMemRr .bc) s

/-- `LD C,d8`, 0x0E (R104): 2 m-cycles. -/
def execLdCD8 (n : Byte) (s : State) : Host.Outcome State Fault Refusal := handler (ldRD8 .c n) s

/-- `LD DE,d16`, 0x11 (R120): 3 m-cycles. -/
def execLdDeD16 (nn : Word) (s : State) : Host.Outcome State Fault Refusal := handler (ldRrD16 .de nn) s

/-- `LD (DE),A`, 0x12 (R109): 2 m-cycles. -/
def execLdMemDeA (s : State) : Host.Outcome State Fault Refusal := handler (ldMemRrA .de) s

/-- `LD D,d8`, 0x16 (R104): 2 m-cycles. -/
def execLdDD8 (n : Byte) (s : State) : Host.Outcome State Fault Refusal := handler (ldRD8 .d n) s

/-- `LD A,(DE)`, 0x1A (R107): 2 m-cycles. -/
def execLdAMemDe (s : State) : Host.Outcome State Fault Refusal := handler (ldAMemRr .de) s

/-- `LD E,d8`, 0x1E (R104): 2 m-cycles. -/
def execLdED8 (n : Byte) (s : State) : Host.Outcome State Fault Refusal := handler (ldRD8 .e n) s

/-- `LD HL,d16`, 0x21 (R120): 3 m-cycles. -/
def execLdHlD16 (nn : Word) (s : State) : Host.Outcome State Fault Refusal := handler (ldRrD16 .hl nn) s

/-- `LD (HL+),A`, 0x22 (R112): 2 m-cycles. -/
def execLdMemHlIncA (s : State) : Host.Outcome State Fault Refusal := handler (ldMemHlStepA 1#16) s

/-- `LD H,d8`, 0x26 (R104): 2 m-cycles. -/
def execLdHD8 (n : Byte) (s : State) : Host.Outcome State Fault Refusal := handler (ldRD8 .h n) s

/-- `LD A,(HL+)`, 0x2A (R110): 2 m-cycles. -/
def execLdAMemHlInc (s : State) : Host.Outcome State Fault Refusal := handler (ldAMemHlStep 1#16) s

/-- `LD L,d8`, 0x2E (R104): 2 m-cycles. -/
def execLdLD8 (n : Byte) (s : State) : Host.Outcome State Fault Refusal := handler (ldRD8 .l n) s

/-- `LD SP,d16`, 0x31 (R120): 3 m-cycles. -/
def execLdSpD16 (nn : Word) (s : State) : Host.Outcome State Fault Refusal := handler (ldRrD16 .sp nn) s

/-- `LD (HL-),A`, 0x32 (R113): 2 m-cycles. -/
def execLdMemHlDecA (s : State) : Host.Outcome State Fault Refusal := handler (ldMemHlStepA (-1#16)) s

/-- `LD (HL),d8`, 0x36 (R105): 3 m-cycles. -/
def execLdMemHlD8 (n : Byte) (s : State) : Host.Outcome State Fault Refusal := handler (ldMemHlD8 n) s

/-- `LD A,(HL-)`, 0x3A (R111): 2 m-cycles. -/
def execLdAMemHlDec (s : State) : Host.Outcome State Fault Refusal := handler (ldAMemHlStep (-1#16)) s

/-- `LD A,d8`, 0x3E (R104): 2 m-cycles. -/
def execLdAD8 (n : Byte) (s : State) : Host.Outcome State Fault Refusal := handler (ldRD8 .a n) s

/-- `LD B,B`, 0x40 (R101): 1 m-cycle. -/
def execLdBB (s : State) : Host.Outcome State Fault Refusal := handler (ldRR .b .b) s

/-- `LD B,C`, 0x41 (R101): 1 m-cycle. -/
def execLdBC (s : State) : Host.Outcome State Fault Refusal := handler (ldRR .b .c) s

/-- `LD B,D`, 0x42 (R101): 1 m-cycle. -/
def execLdBD (s : State) : Host.Outcome State Fault Refusal := handler (ldRR .b .d) s

/-- `LD B,E`, 0x43 (R101): 1 m-cycle. -/
def execLdBE (s : State) : Host.Outcome State Fault Refusal := handler (ldRR .b .e) s

/-- `LD B,H`, 0x44 (R101): 1 m-cycle. -/
def execLdBH (s : State) : Host.Outcome State Fault Refusal := handler (ldRR .b .h) s

/-- `LD B,L`, 0x45 (R101): 1 m-cycle. -/
def execLdBL (s : State) : Host.Outcome State Fault Refusal := handler (ldRR .b .l) s

/-- `LD B,(HL)`, 0x46 (R102): 2 m-cycles. -/
def execLdBMemHl (s : State) : Host.Outcome State Fault Refusal := handler (ldRMemHl .b) s

/-- `LD B,A`, 0x47 (R101): 1 m-cycle. -/
def execLdBA (s : State) : Host.Outcome State Fault Refusal := handler (ldRR .b .a) s

/-- `LD C,B`, 0x48 (R101): 1 m-cycle. -/
def execLdCB (s : State) : Host.Outcome State Fault Refusal := handler (ldRR .c .b) s

/-- `LD C,C`, 0x49 (R101): 1 m-cycle. -/
def execLdCC (s : State) : Host.Outcome State Fault Refusal := handler (ldRR .c .c) s

/-- `LD C,D`, 0x4A (R101): 1 m-cycle. -/
def execLdCD (s : State) : Host.Outcome State Fault Refusal := handler (ldRR .c .d) s

/-- `LD C,E`, 0x4B (R101): 1 m-cycle. -/
def execLdCE (s : State) : Host.Outcome State Fault Refusal := handler (ldRR .c .e) s

/-- `LD C,H`, 0x4C (R101): 1 m-cycle. -/
def execLdCH (s : State) : Host.Outcome State Fault Refusal := handler (ldRR .c .h) s

/-- `LD C,L`, 0x4D (R101): 1 m-cycle. -/
def execLdCL (s : State) : Host.Outcome State Fault Refusal := handler (ldRR .c .l) s

/-- `LD C,(HL)`, 0x4E (R102): 2 m-cycles. -/
def execLdCMemHl (s : State) : Host.Outcome State Fault Refusal := handler (ldRMemHl .c) s

/-- `LD C,A`, 0x4F (R101): 1 m-cycle. -/
def execLdCA (s : State) : Host.Outcome State Fault Refusal := handler (ldRR .c .a) s

/-- `LD D,B`, 0x50 (R101): 1 m-cycle. -/
def execLdDB (s : State) : Host.Outcome State Fault Refusal := handler (ldRR .d .b) s

/-- `LD D,C`, 0x51 (R101): 1 m-cycle. -/
def execLdDC (s : State) : Host.Outcome State Fault Refusal := handler (ldRR .d .c) s

/-- `LD D,D`, 0x52 (R101): 1 m-cycle. -/
def execLdDD (s : State) : Host.Outcome State Fault Refusal := handler (ldRR .d .d) s

/-- `LD D,E`, 0x53 (R101): 1 m-cycle. -/
def execLdDE (s : State) : Host.Outcome State Fault Refusal := handler (ldRR .d .e) s

/-- `LD D,H`, 0x54 (R101): 1 m-cycle. -/
def execLdDH (s : State) : Host.Outcome State Fault Refusal := handler (ldRR .d .h) s

/-- `LD D,L`, 0x55 (R101): 1 m-cycle. -/
def execLdDL (s : State) : Host.Outcome State Fault Refusal := handler (ldRR .d .l) s

/-- `LD D,(HL)`, 0x56 (R102): 2 m-cycles. -/
def execLdDMemHl (s : State) : Host.Outcome State Fault Refusal := handler (ldRMemHl .d) s

/-- `LD D,A`, 0x57 (R101): 1 m-cycle. -/
def execLdDA (s : State) : Host.Outcome State Fault Refusal := handler (ldRR .d .a) s

/-- `LD E,B`, 0x58 (R101): 1 m-cycle. -/
def execLdEB (s : State) : Host.Outcome State Fault Refusal := handler (ldRR .e .b) s

/-- `LD E,C`, 0x59 (R101): 1 m-cycle. -/
def execLdEC (s : State) : Host.Outcome State Fault Refusal := handler (ldRR .e .c) s

/-- `LD E,D`, 0x5A (R101): 1 m-cycle. -/
def execLdED (s : State) : Host.Outcome State Fault Refusal := handler (ldRR .e .d) s

/-- `LD E,E`, 0x5B (R101): 1 m-cycle. -/
def execLdEE (s : State) : Host.Outcome State Fault Refusal := handler (ldRR .e .e) s

/-- `LD E,H`, 0x5C (R101): 1 m-cycle. -/
def execLdEH (s : State) : Host.Outcome State Fault Refusal := handler (ldRR .e .h) s

/-- `LD E,L`, 0x5D (R101): 1 m-cycle. -/
def execLdEL (s : State) : Host.Outcome State Fault Refusal := handler (ldRR .e .l) s

/-- `LD E,(HL)`, 0x5E (R102): 2 m-cycles. -/
def execLdEMemHl (s : State) : Host.Outcome State Fault Refusal := handler (ldRMemHl .e) s

/-- `LD E,A`, 0x5F (R101): 1 m-cycle. -/
def execLdEA (s : State) : Host.Outcome State Fault Refusal := handler (ldRR .e .a) s

/-- `LD H,B`, 0x60 (R101): 1 m-cycle. -/
def execLdHB (s : State) : Host.Outcome State Fault Refusal := handler (ldRR .h .b) s

/-- `LD H,C`, 0x61 (R101): 1 m-cycle. -/
def execLdHC (s : State) : Host.Outcome State Fault Refusal := handler (ldRR .h .c) s

/-- `LD H,D`, 0x62 (R101): 1 m-cycle. -/
def execLdHD (s : State) : Host.Outcome State Fault Refusal := handler (ldRR .h .d) s

/-- `LD H,E`, 0x63 (R101): 1 m-cycle. -/
def execLdHE (s : State) : Host.Outcome State Fault Refusal := handler (ldRR .h .e) s

/-- `LD H,H`, 0x64 (R101): 1 m-cycle. -/
def execLdHH (s : State) : Host.Outcome State Fault Refusal := handler (ldRR .h .h) s

/-- `LD H,L`, 0x65 (R101): 1 m-cycle. -/
def execLdHL (s : State) : Host.Outcome State Fault Refusal := handler (ldRR .h .l) s

/-- `LD H,(HL)`, 0x66 (R102): 2 m-cycles. -/
def execLdHMemHl (s : State) : Host.Outcome State Fault Refusal := handler (ldRMemHl .h) s

/-- `LD H,A`, 0x67 (R101): 1 m-cycle. -/
def execLdHA (s : State) : Host.Outcome State Fault Refusal := handler (ldRR .h .a) s

/-- `LD L,B`, 0x68 (R101): 1 m-cycle. -/
def execLdLB (s : State) : Host.Outcome State Fault Refusal := handler (ldRR .l .b) s

/-- `LD L,C`, 0x69 (R101): 1 m-cycle. -/
def execLdLC (s : State) : Host.Outcome State Fault Refusal := handler (ldRR .l .c) s

/-- `LD L,D`, 0x6A (R101): 1 m-cycle. -/
def execLdLD (s : State) : Host.Outcome State Fault Refusal := handler (ldRR .l .d) s

/-- `LD L,E`, 0x6B (R101): 1 m-cycle. -/
def execLdLE (s : State) : Host.Outcome State Fault Refusal := handler (ldRR .l .e) s

/-- `LD L,H`, 0x6C (R101): 1 m-cycle. -/
def execLdLH (s : State) : Host.Outcome State Fault Refusal := handler (ldRR .l .h) s

/-- `LD L,L`, 0x6D (R101): 1 m-cycle. -/
def execLdLL (s : State) : Host.Outcome State Fault Refusal := handler (ldRR .l .l) s

/-- `LD L,(HL)`, 0x6E (R102): 2 m-cycles. -/
def execLdLMemHl (s : State) : Host.Outcome State Fault Refusal := handler (ldRMemHl .l) s

/-- `LD L,A`, 0x6F (R101): 1 m-cycle. -/
def execLdLA (s : State) : Host.Outcome State Fault Refusal := handler (ldRR .l .a) s

/-- `LD (HL),B`, 0x70 (R103): 2 m-cycles. -/
def execLdMemHlB (s : State) : Host.Outcome State Fault Refusal := handler (ldMemHlR .b) s

/-- `LD (HL),C`, 0x71 (R103): 2 m-cycles. -/
def execLdMemHlC (s : State) : Host.Outcome State Fault Refusal := handler (ldMemHlR .c) s

/-- `LD (HL),D`, 0x72 (R103): 2 m-cycles. -/
def execLdMemHlD (s : State) : Host.Outcome State Fault Refusal := handler (ldMemHlR .d) s

/-- `LD (HL),E`, 0x73 (R103): 2 m-cycles. -/
def execLdMemHlE (s : State) : Host.Outcome State Fault Refusal := handler (ldMemHlR .e) s

/-- `LD (HL),H`, 0x74 (R103): 2 m-cycles. -/
def execLdMemHlH (s : State) : Host.Outcome State Fault Refusal := handler (ldMemHlR .h) s

/-- `LD (HL),L`, 0x75 (R103): 2 m-cycles. -/
def execLdMemHlL (s : State) : Host.Outcome State Fault Refusal := handler (ldMemHlR .l) s

/-- `LD (HL),A`, 0x77 (R103): 2 m-cycles. -/
def execLdMemHlA (s : State) : Host.Outcome State Fault Refusal := handler (ldMemHlR .a) s

/-- `LD A,B`, 0x78 (R101): 1 m-cycle. -/
def execLdAB (s : State) : Host.Outcome State Fault Refusal := handler (ldRR .a .b) s

/-- `LD A,C`, 0x79 (R101): 1 m-cycle. -/
def execLdAC (s : State) : Host.Outcome State Fault Refusal := handler (ldRR .a .c) s

/-- `LD A,D`, 0x7A (R101): 1 m-cycle. -/
def execLdAD (s : State) : Host.Outcome State Fault Refusal := handler (ldRR .a .d) s

/-- `LD A,E`, 0x7B (R101): 1 m-cycle. -/
def execLdAE (s : State) : Host.Outcome State Fault Refusal := handler (ldRR .a .e) s

/-- `LD A,H`, 0x7C (R101): 1 m-cycle. -/
def execLdAH (s : State) : Host.Outcome State Fault Refusal := handler (ldRR .a .h) s

/-- `LD A,L`, 0x7D (R101): 1 m-cycle. -/
def execLdAL (s : State) : Host.Outcome State Fault Refusal := handler (ldRR .a .l) s

/-- `LD A,(HL)`, 0x7E (R102): 2 m-cycles. -/
def execLdAMemHl (s : State) : Host.Outcome State Fault Refusal := handler (ldRMemHl .a) s

/-- `LD A,A`, 0x7F (R101): 1 m-cycle. -/
def execLdAA (s : State) : Host.Outcome State Fault Refusal := handler (ldRR .a .a) s

/-- `LDH (a8),A`, 0xE0 (R117): 3 m-cycles. -/
def execLdhMemA8A (n : Byte) (s : State) : Host.Outcome State Fault Refusal := handler (ldhMemA8A n) s

/-- `LD (C),A`, 0xE2 (R119): 2 m-cycles. -/
def execLdMemCA (s : State) : Host.Outcome State Fault Refusal := handler (ldMemCA) s

/-- `LD (a16),A`, 0xEA (R115): 4 m-cycles. -/
def execLdMemA16A (addr : Word) (s : State) : Host.Outcome State Fault Refusal := handler (ldMemA16A addr) s

/-- `LDH A,(a8)`, 0xF0 (R116): 3 m-cycles. -/
def execLdhAMemA8 (n : Byte) (s : State) : Host.Outcome State Fault Refusal := handler (ldhAMemA8 n) s

/-- `LD A,(C)`, 0xF2 (R118): 2 m-cycles. -/
def execLdAMemC (s : State) : Host.Outcome State Fault Refusal := handler (ldAMemC) s

/-- `LD SP,HL`, 0xF9 (R122): 2 m-cycles. -/
def execLdSpHl (s : State) : Host.Outcome State Fault Refusal := handler (ldSpHl) s

/-- `LD A,(a16)`, 0xFA (R114): 4 m-cycles. -/
def execLdAMemA16 (addr : Word) (s : State) : Host.Outcome State Fault Refusal := handler (ldAMemA16 addr) s

end Sys2Proof.Machine
end

