-- ==== Sys2Proof/Machine/Misc.lean ====
section
/-! DEFINITION. Miscellaneous, power-state and interrupt-control instructions and the illegal opcodes (48_misc.md R250 to
R258, R260): the operations, then one meaning for each row. -/

namespace Sys2Proof.Machine

/-- `NOP` (R250). -/
def nop : Op Nat := return 1

/-- `DAA` (R251). -/
def daa : Op Nat := do
  updateState fun s => { s with a := (daaResult s.a s.f).1, f := (daaResult s.a s.f).2 }
  return 1

/-- `CPL`: Z and C unchanged (R252). -/
def cpl : Op Nat := do
  updateState fun s => { s with a := ~~~s.a, f := { s.f with n := true, h := true } }
  return 1

/-- `SCF`: Z unchanged (R253). -/
def scf : Op Nat := do
  updateState fun s => { s with f := { s.f with n := false, h := false, c := true } }
  return 1

/-- `CCF`: Z unchanged (R254). -/
def ccf : Op Nat := do
  updateState fun s => { s with f := { s.f with n := false, h := false, c := !s.f.c } }
  return 1

/-- `HALT` (R255). -/
def halt : Op Nat := do
  updateState fun s => { s with run := .halted }
  return 1

/-- `STOP`: a fault that records the opcode's own address, or the second byte consumed and nothing else, by `STOP_MODE`
(R256). PC is one past the opcode here: the operand byte is fetched under Skip only (log entry 7). -/
def stop : Op Nat := do
  let s ← getState
  match s.cfg.stopMode with
  | .fault => raise (.unimplemented 0x10#8 (s.pc - 1))
  | .skip => do
    let _n ← fetch8
    return 1

/-- `DI`: at once; eiDelay unchanged (R257). -/
def di : Op Nat := do
  updateState fun s => { s with ime := false }
  return 1

/-- `EI`: IME, and the one-instruction delay (R258). -/
def ei : Op Nat := do
  updateState fun s => { s with ime := true, eiDelay := true }
  return 1

/-- An illegal opcode; PC was already incremented by the fetch (R260, 60_exceptions.md R273). -/
def illegalOpcode (op : Byte) : Op Nat := do
  let s ← getState
  raise (.illegalOpcode op (s.pc - 1))

/-- `NOP`, 0x00 (R250): 1 m-cycle. -/
def execNop (s : State) : Host.Outcome State Fault Refusal := handler (nop) s

/-- `STOP`, 0x10 (R256): 1 m-cycle. -/
def execStop (s : State) : Host.Outcome State Fault Refusal := handler (stop) s

/-- `DAA`, 0x27 (R251): 1 m-cycle. -/
def execDaa (s : State) : Host.Outcome State Fault Refusal := handler (daa) s

/-- `CPL`, 0x2F (R252): 1 m-cycle. -/
def execCpl (s : State) : Host.Outcome State Fault Refusal := handler (cpl) s

/-- `SCF`, 0x37 (R253): 1 m-cycle. -/
def execScf (s : State) : Host.Outcome State Fault Refusal := handler (scf) s

/-- `CCF`, 0x3F (R254): 1 m-cycle. -/
def execCcf (s : State) : Host.Outcome State Fault Refusal := handler (ccf) s

/-- `HALT`, 0x76 (R255): 1 m-cycle. -/
def execHalt (s : State) : Host.Outcome State Fault Refusal := handler (halt) s

/-- `ILLEGAL D3`, 0xD3 (R260): no count. -/
def execIllegalD3 (s : State) : Host.Outcome State Fault Refusal := handler (illegalOpcode 0xD3#8) s

/-- `ILLEGAL DB`, 0xDB (R260): no count. -/
def execIllegalDB (s : State) : Host.Outcome State Fault Refusal := handler (illegalOpcode 0xDB#8) s

/-- `ILLEGAL DD`, 0xDD (R260): no count. -/
def execIllegalDD (s : State) : Host.Outcome State Fault Refusal := handler (illegalOpcode 0xDD#8) s

/-- `ILLEGAL E3`, 0xE3 (R260): no count. -/
def execIllegalE3 (s : State) : Host.Outcome State Fault Refusal := handler (illegalOpcode 0xE3#8) s

/-- `ILLEGAL E4`, 0xE4 (R260): no count. -/
def execIllegalE4 (s : State) : Host.Outcome State Fault Refusal := handler (illegalOpcode 0xE4#8) s

/-- `ILLEGAL EB`, 0xEB (R260): no count. -/
def execIllegalEB (s : State) : Host.Outcome State Fault Refusal := handler (illegalOpcode 0xEB#8) s

/-- `ILLEGAL EC`, 0xEC (R260): no count. -/
def execIllegalEC (s : State) : Host.Outcome State Fault Refusal := handler (illegalOpcode 0xEC#8) s

/-- `ILLEGAL ED`, 0xED (R260): no count. -/
def execIllegalED (s : State) : Host.Outcome State Fault Refusal := handler (illegalOpcode 0xED#8) s

/-- `DI`, 0xF3 (R257): 1 m-cycle. -/
def execDi (s : State) : Host.Outcome State Fault Refusal := handler (di) s

/-- `ILLEGAL F4`, 0xF4 (R260): no count. -/
def execIllegalF4 (s : State) : Host.Outcome State Fault Refusal := handler (illegalOpcode 0xF4#8) s

/-- `EI`, 0xFB (R258): 1 m-cycle. -/
def execEi (s : State) : Host.Outcome State Fault Refusal := handler (ei) s

/-- `ILLEGAL FC`, 0xFC (R260): no count. -/
def execIllegalFC (s : State) : Host.Outcome State Fault Refusal := handler (illegalOpcode 0xFC#8) s

/-- `ILLEGAL FD`, 0xFD (R260): no count. -/
def execIllegalFD (s : State) : Host.Outcome State Fault Refusal := handler (illegalOpcode 0xFD#8) s

end Sys2Proof.Machine
end

