-- ==== Sys2Proof/Machine/Stack.lean ====
section
/-! DEFINITION. Stack push and pop (47_stack.md R240 to R242): the shared operations, then one meaning for each row. -/

namespace Sys2Proof.Machine

/-- `PUSH rr` (R240). -/
def pushRr (rr : Reg16S) : Op Nat := do
  let s ← getState
  push16 (s.getR16S rr)
  return 4

/-- `POP rr`: the pair is written after both reads, as one write (R241). -/
def popRr (rr : Reg16S) : Op Nat := do
  let v ← pop16
  updateState fun s => s.setR16S rr v
  return 3

/-- `POP AF`: A and the four flags; `v[3:0]` is discarded (R242, 10_state.md R23). -/
def popAf : Op Nat := popRr .af

/-- `POP BC`, 0xC1 (R241): 3 m-cycles. -/
def execPopBc (s : State) : Host.Outcome State Fault Refusal := handler (popRr .bc) s

/-- `PUSH BC`, 0xC5 (R240): 4 m-cycles. -/
def execPushBc (s : State) : Host.Outcome State Fault Refusal := handler (pushRr .bc) s

/-- `POP DE`, 0xD1 (R241): 3 m-cycles. -/
def execPopDe (s : State) : Host.Outcome State Fault Refusal := handler (popRr .de) s

/-- `PUSH DE`, 0xD5 (R240): 4 m-cycles. -/
def execPushDe (s : State) : Host.Outcome State Fault Refusal := handler (pushRr .de) s

/-- `POP HL`, 0xE1 (R241): 3 m-cycles. -/
def execPopHl (s : State) : Host.Outcome State Fault Refusal := handler (popRr .hl) s

/-- `PUSH HL`, 0xE5 (R240): 4 m-cycles. -/
def execPushHl (s : State) : Host.Outcome State Fault Refusal := handler (pushRr .hl) s

/-- `POP AF`, 0xF1 (R242): 3 m-cycles. -/
def execPopAf (s : State) : Host.Outcome State Fault Refusal := handler (popAf) s

/-- `PUSH AF`, 0xF5 (R240): 4 m-cycles. -/
def execPushAf (s : State) : Host.Outcome State Fault Refusal := handler (pushRr .af) s

end Sys2Proof.Machine
end

