-- ==== Sys2Proof/Machine/RunLoop.lean ====
section
/-! DEFINITION. Fetching an instruction's bytes, `Execute()` (30_encoding.md R78) and the iterations of the run loop
(60_exceptions.md R280, R281, R285). -/

namespace Sys2Proof.Machine

/-- How many bytes are fetched after the opcode before the handler acts: the operand bytes of R70, but none for STOP,
whose own handler fetches its second byte under `STOP_MODE = Skip` (30_encoding.md R70, 48_misc.md R256). -/
def operandFetches (op : Byte) : Nat := if op = 0x10#8 then 0 else instrLength op - 1

/-- Fetch the bytes of one instruction from PC, in order, each by `Fetch8()` (30_encoding.md R77, R78). Every handler
fetches its operand bytes before it does anything else (log entry 8). -/
def fetchInstr : Op Instr := do
  let op ← fetch8
  match operandFetches op with
  | 0 => return decodeBytes op 0#8 0#8
  | 1 => do
    let b1 ← fetch8
    return decodeBytes op b1 0#8
  | _ => do
    let b1 ← fetch8
    let b2 ← fetch8
    return decodeBytes op b1 b2

/-- `Execute()` (30_encoding.md R78); what it returns is in `cycles`, none when it faults. -/
def execute (s : State) : Host.Outcome State Fault Refusal :=
  match fetchInstr s with
  | .ok i s' => exec i s'
  | .error f s' => .next { s'.faultedBy f with cycles := none }

/-- Nothing reported yet: the outputs of the iteration that begins (log entry 9). -/
def State.beginIteration (s : State) : State :=
  { s with cycles := none, timerCalls := [], busCalls := [] }

/-- What a Running iteration does after the instruction: the Timer call, then the interrupt check unless the
instruction was HALT (60_exceptions.md R281, D11). -/
def afterInstruction (n : Nat) : Op Unit := do
  timerInc n
  let s ← getState
  if s.run = .running then interruptCheck else pure ()

/-- A Running iteration (60_exceptions.md R281). An instruction that faulted returned no count: the iteration ends
before the Timer call and the check (R283). -/
def runningIteration (s : State) : Host.Outcome State Fault Refusal :=
  match execute s.beginIteration with
  | .next s' =>
    match s'.cycles with
    | some n => settle (afterInstruction n) s'
    | none => .next s'
  | .fault f => .fault f
  | .refused r => .refused r

/-- A Halted iteration (60_exceptions.md R285). -/
def haltedIteration (s : State) : Host.Outcome State Fault Refusal :=
  settle haltedPoll s.beginIteration

/-- One iteration of `run()`; a Faulted core performs none (10_state.md R31, 60_exceptions.md R280). -/
def iteration (s : State) : Host.Outcome State Fault Refusal :=
  match s.run with
  | .running => runningIteration s
  | .halted => haltedIteration s
  | .faulted f => .fault f

end Sys2Proof.Machine
end

