-- ==== Sys2Proof/Machine/Loader.lean ====
section
/-! DEFINITION. A program's bytes placed where the machine fetches: the load from outside that the spec leaves to the
platform (00_scope.md R3 "ROM loading"; log entry 12). -/

namespace Sys2Proof.Machine

/-- Bytes stored from an address on, wrapping modulo 2^16 (20_memory.md R52). -/
def State.placeBytes (s : State) (addr : Word) : List Byte → State
  | [] => s
  | v :: rest => (s.storeByte addr v).placeBytes (addr + 1) rest

/-- The bus accepts the fetch of `n` bytes from an address on. -/
def State.allowFetch (s : State) (addr : Word) : Nat → State
  | 0 => s
  | n + 1 =>
    { s with rejects := s.rejects.filter fun x => x ≠ BusSite.mk .read addr }.allowFetch (addr + 1) n

/-- The bus acts as the memory at the next `n` calls. -/
def State.plainCalls (s : State) (n : Nat) : State :=
  { s with replies := List.replicate n .asMemory ++ s.replies }

/-- The instruction of a table word stored at PC, on a Running core whose bus accepts its fetch and answers it from memory. -/
def State.withInstruction (s : State) (nbits w : Nat) : State :=
  let bytes := tableBytes nbits w
  ((({ s with run := .running }.plainCalls (operandFetches (bytes.headD 0x00#8) + 1)).allowFetch s.pc 3).placeBytes s.pc bytes)

end Sys2Proof.Machine
end

