-- ==== Sys2Proof/Machine/Step.lean ====
section
/-! DEFINITION. The step: one iteration of the run loop (60_exceptions.md R280; log entry 4). -/

namespace Sys2Proof.Machine

/-- One iteration of `run()`. -/
def step (s : State) : Host.Outcome State Fault Refusal := iteration s

/-- The state with an instruction of spec/opcode_table.json, numbered as the table numbers it, where `step` fetches its
next instruction (log entries 11, 12). -/
def State.withFetchWord (s : State) (nbits w : Nat) : State := s.withInstruction nbits w

end Sys2Proof.Machine
end

