-- ==== Sys2Proof/Machine/Footprint.lean ====
section
/-! DEFINITION. What each instruction may write, as its rule states it: the addresses it stores to, the 8-bit registers,
SP, the flags (10_state.md R26) and PC. A whole-machine statement says that an instruction changes nothing else. -/

namespace Sys2Proof.Machine

/-- The addresses an instruction stores to, computed from the state it starts in (the store rules of 40_loads.md to
47_stack.md). A conditional CALL that is not taken makes no stack access (46_control.md R227). -/
def storedAddrs (i : Instr) (s : State) : List Word :=
  match i with
  | .ldMemHlIncA | .ldMemHlDecA | .incMemHl | .decMemHl | .ldMemHlD8 _ | .ldMemHlB
  | .ldMemHlC | .ldMemHlD | .ldMemHlE | .ldMemHlH | .ldMemHlL | .ldMemHlA
  | .rlcMemHl | .rrcMemHl | .rlMemHl | .rrMemHl | .slaMemHl | .sraMemHl
  | .swapMemHl | .srlMemHl | .res0MemHl | .res1MemHl | .res2MemHl | .res3MemHl
  | .res4MemHl | .res5MemHl | .res6MemHl | .res7MemHl | .set0MemHl | .set1MemHl
  | .set2MemHl | .set3MemHl | .set4MemHl | .set5MemHl | .set6MemHl | .set7MemHl => [s.hl]
  | .ldMemBcA => [s.bc]
  | .ldMemDeA => [s.de]
  | .ldMemA16A addr => [addr]
  | .ldMemA16Sp addr => [addr, addr + 1]
  | .ldhMemA8A n => [highPage n]
  | .ldMemCA => [highPage s.c]
  | .pushBc | .rst00H | .callA16 _ | .rst08H | .pushDe | .rst10H
  | .rst18H | .pushHl | .rst20H | .rst28H | .pushAf | .rst30H
  | .rst38H => [s.sp - 1, s.sp - 2]
  | .callNzA16 _ => if s.f.holds .nz then [s.sp - 1, s.sp - 2] else []
  | .callZA16 _ => if s.f.holds .z then [s.sp - 1, s.sp - 2] else []
  | .callNcA16 _ => if s.f.holds .nc then [s.sp - 1, s.sp - 2] else []
  | .callCA16 _ => if s.f.holds .c then [s.sp - 1, s.sp - 2] else []
  | .prefixCb cb =>
    if cbTarget (cb.extractLsb' 0 3).toFin = none ∧ cb.extractLsb' 6 2 ≠ 1 then [s.hl] else []
  | _ => []

/-- The 8-bit registers an instruction may write (the rules of 40_loads.md to 48_misc.md). -/
def destR8 (i : Instr) : List Reg8 :=
  match i with
  | .incB | .decB | .ldBD8 _ | .ldBB | .ldBC | .ldBD
  | .ldBE | .ldBH | .ldBL | .ldBMemHl | .ldBA | .rlcB
  | .rrcB | .rlB | .rrB | .slaB | .sraB | .swapB
  | .srlB | .res0B | .res1B | .res2B | .res3B | .res4B
  | .res5B | .res6B | .res7B | .set0B | .set1B | .set2B
  | .set3B | .set4B | .set5B | .set6B | .set7B => [.b]
  | .incC | .decC | .ldCD8 _ | .ldCB | .ldCC | .ldCD
  | .ldCE | .ldCH | .ldCL | .ldCMemHl | .ldCA | .rlcC
  | .rrcC | .rlC | .rrC | .slaC | .sraC | .swapC
  | .srlC | .res0C | .res1C | .res2C | .res3C | .res4C
  | .res5C | .res6C | .res7C | .set0C | .set1C | .set2C
  | .set3C | .set4C | .set5C | .set6C | .set7C => [.c]
  | .incD | .decD | .ldDD8 _ | .ldDB | .ldDC | .ldDD
  | .ldDE | .ldDH | .ldDL | .ldDMemHl | .ldDA | .rlcD
  | .rrcD | .rlD | .rrD | .slaD | .sraD | .swapD
  | .srlD | .res0D | .res1D | .res2D | .res3D | .res4D
  | .res5D | .res6D | .res7D | .set0D | .set1D | .set2D
  | .set3D | .set4D | .set5D | .set6D | .set7D => [.d]
  | .incE | .decE | .ldED8 _ | .ldEB | .ldEC | .ldED
  | .ldEE | .ldEH | .ldEL | .ldEMemHl | .ldEA | .rlcE
  | .rrcE | .rlE | .rrE | .slaE | .sraE | .swapE
  | .srlE | .res0E | .res1E | .res2E | .res3E | .res4E
  | .res5E | .res6E | .res7E | .set0E | .set1E | .set2E
  | .set3E | .set4E | .set5E | .set6E | .set7E => [.e]
  | .incH | .decH | .ldHD8 _ | .ldHB | .ldHC | .ldHD
  | .ldHE | .ldHH | .ldHL | .ldHMemHl | .ldHA | .rlcH
  | .rrcH | .rlH | .rrH | .slaH | .sraH | .swapH
  | .srlH | .res0H | .res1H | .res2H | .res3H | .res4H
  | .res5H | .res6H | .res7H | .set0H | .set1H | .set2H
  | .set3H | .set4H | .set5H | .set6H | .set7H => [.h]
  | .incL | .decL | .ldLD8 _ | .ldLB | .ldLC | .ldLD
  | .ldLE | .ldLH | .ldLL | .ldLMemHl | .ldLA | .rlcL
  | .rrcL | .rlL | .rrL | .slaL | .sraL | .swapL
  | .srlL | .res0L | .res1L | .res2L | .res3L | .res4L
  | .res5L | .res6L | .res7L | .set0L | .set1L | .set2L
  | .set3L | .set4L | .set5L | .set6L | .set7L => [.l]
  | .rlca | .ldAMemBc | .rrca | .rla | .ldAMemDe | .rra
  | .daa | .cpl | .incA | .decA | .ldAD8 _ | .ldAB
  | .ldAC | .ldAD | .ldAE | .ldAH | .ldAL | .ldAMemHl
  | .ldAA | .addAB | .addAC | .addAD | .addAE | .addAH
  | .addAL | .addAMemHl | .addAA | .adcAB | .adcAC | .adcAD
  | .adcAE | .adcAH | .adcAL | .adcAMemHl | .adcAA | .subB
  | .subC | .subD | .subE | .subH | .subL | .subMemHl
  | .subA | .sbcAB | .sbcAC | .sbcAD | .sbcAE | .sbcAH
  | .sbcAL | .sbcAMemHl | .sbcAA | .andB | .andC | .andD
  | .andE | .andH | .andL | .andMemHl | .andA | .xorB
  | .xorC | .xorD | .xorE | .xorH | .xorL | .xorMemHl
  | .xorA | .orB | .orC | .orD | .orE | .orH
  | .orL | .orMemHl | .orA | .addAD8 _ | .adcAD8 _ | .subD8 _
  | .sbcAD8 _ | .andD8 _ | .xorD8 _ | .ldhAMemA8 _ | .popAf | .ldAMemC
  | .orD8 _ | .ldAMemA16 _ | .rlcA | .rrcA | .rlA | .rrA
  | .slaA | .sraA | .swapA | .srlA | .res0A | .res1A
  | .res2A | .res3A | .res4A | .res5A | .res6A | .res7A
  | .set0A | .set1A | .set2A | .set3A | .set4A | .set5A
  | .set6A | .set7A => [.a]
  | .ldBcD16 _ | .incBc | .decBc | .popBc => [.b, .c]
  | .ldDeD16 _ | .incDe | .decDe | .popDe => [.d, .e]
  | .addHlBc | .addHlDe | .ldHlD16 _ | .ldMemHlIncA | .incHl | .addHlHl
  | .decHl | .ldMemHlDecA | .addHlSp | .popHl | .ldHlSpE8 _ => [.h, .l]
  | .ldAMemHlInc | .ldAMemHlDec => [.a, .h, .l]
  | .prefixCb cb =>
    match cbTarget (cb.extractLsb' 0 3).toFin with
    | some r => if cb.extractLsb' 6 2 = 1 then [] else [r]
    | none => []
  | _ => []

/-- Whether an instruction may write SP (10_state.md R27). -/
def writesSp (i : Instr) : Bool :=
  match i with
  | .ldSpD16 _ | .incSp | .decSp | .retNz | .popBc | .callNzA16 _
  | .pushBc | .rst00H | .retZ | .ret | .callZA16 _ | .callA16 _
  | .rst08H | .retNc | .popDe | .callNcA16 _ | .pushDe | .rst10H
  | .retC | .reti | .callCA16 _ | .rst18H | .popHl | .pushHl
  | .rst20H | .addSpE8 _ | .rst28H | .popAf | .pushAf | .rst30H
  | .ldSpHl | .rst38H => true
  | _ => false

/-- The flags an instruction may write (10_state.md R26); Z of the accumulator rotates by `A_ROT_Z`. -/
def flagsWritten (i : Instr) (cfg : Config) : Flags :=
  match i with
  | .incB | .decB | .incC | .decC | .incD | .decD
  | .incE | .decE | .incH | .decH | .incL | .decL
  | .incMemHl | .decMemHl | .incA | .decA | .bit0B | .bit0C
  | .bit0D | .bit0E | .bit0H | .bit0L | .bit0MemHl | .bit0A
  | .bit1B | .bit1C | .bit1D | .bit1E | .bit1H | .bit1L
  | .bit1MemHl | .bit1A | .bit2B | .bit2C | .bit2D | .bit2E
  | .bit2H | .bit2L | .bit2MemHl | .bit2A | .bit3B | .bit3C
  | .bit3D | .bit3E | .bit3H | .bit3L | .bit3MemHl | .bit3A
  | .bit4B | .bit4C | .bit4D | .bit4E | .bit4H | .bit4L
  | .bit4MemHl | .bit4A | .bit5B | .bit5C | .bit5D | .bit5E
  | .bit5H | .bit5L | .bit5MemHl | .bit5A | .bit6B | .bit6C
  | .bit6D | .bit6E | .bit6H | .bit6L | .bit6MemHl | .bit6A
  | .bit7B | .bit7C | .bit7D | .bit7E | .bit7H | .bit7L
  | .bit7MemHl | .bit7A => { z := true, n := true, h := true, c := false }
  | .addAB | .addAC | .addAD | .addAE | .addAH | .addAL
  | .addAMemHl | .addAA | .adcAB | .adcAC | .adcAD | .adcAE
  | .adcAH | .adcAL | .adcAMemHl | .adcAA | .subB | .subC
  | .subD | .subE | .subH | .subL | .subMemHl | .subA
  | .sbcAB | .sbcAC | .sbcAD | .sbcAE | .sbcAH | .sbcAL
  | .sbcAMemHl | .sbcAA | .andB | .andC | .andD | .andE
  | .andH | .andL | .andMemHl | .andA | .xorB | .xorC
  | .xorD | .xorE | .xorH | .xorL | .xorMemHl | .xorA
  | .orB | .orC | .orD | .orE | .orH | .orL
  | .orMemHl | .orA | .cpB | .cpC | .cpD | .cpE
  | .cpH | .cpL | .cpMemHl | .cpA | .addAD8 _ | .adcAD8 _
  | .subD8 _ | .sbcAD8 _ | .andD8 _ | .addSpE8 _ | .xorD8 _ | .popAf
  | .orD8 _ | .ldHlSpE8 _ | .cpD8 _ | .rlcB | .rlcC | .rlcD
  | .rlcE | .rlcH | .rlcL | .rlcMemHl | .rlcA | .rrcB
  | .rrcC | .rrcD | .rrcE | .rrcH | .rrcL | .rrcMemHl
  | .rrcA | .rlB | .rlC | .rlD | .rlE | .rlH
  | .rlL | .rlMemHl | .rlA | .rrB | .rrC | .rrD
  | .rrE | .rrH | .rrL | .rrMemHl | .rrA | .slaB
  | .slaC | .slaD | .slaE | .slaH | .slaL | .slaMemHl
  | .slaA | .sraB | .sraC | .sraD | .sraE | .sraH
  | .sraL | .sraMemHl | .sraA | .swapB | .swapC | .swapD
  | .swapE | .swapH | .swapL | .swapMemHl | .swapA | .srlB
  | .srlC | .srlD | .srlE | .srlH | .srlL | .srlMemHl
  | .srlA => { z := true, n := true, h := true, c := true }
  | .addHlBc | .addHlDe | .addHlHl | .scf | .addHlSp | .ccf => { z := false, n := true, h := true, c := true }
  | .rlca | .rrca | .rla | .rra => { z := decide (cfg.aRotZ = .cleared), n := true, h := true, c := true }
  | .daa => { z := true, n := false, h := true, c := true }
  | .cpl => { z := false, n := true, h := true, c := false }
  | .prefixCb cb =>
    match (cb.extractLsb' 6 2).toNat with
    | 0 => { z := true, n := true, h := true, c := true }
    | 1 => { z := true, n := true, h := true, c := false }
    | _ => { z := false, n := false, h := false, c := false }
  | _ => { z := false, n := false, h := false, c := false }

/-- Whether an instruction may write PC after its operand bytes: the control transfers, and STOP, whose handler may fetch
its second byte (10_state.md R28, 48_misc.md R256). -/
def writesPc (i : Instr) : Bool :=
  match i with
  | .stop | .jrE8 _ | .jrNzE8 _ | .jrZE8 _ | .jrNcE8 _ | .jrCE8 _
  | .retNz | .jpNzA16 _ | .jpA16 _ | .callNzA16 _ | .rst00H | .retZ
  | .ret | .jpZA16 _ | .callZA16 _ | .callA16 _ | .rst08H | .retNc
  | .jpNcA16 _ | .callNcA16 _ | .rst10H | .retC | .reti | .jpCA16 _
  | .callCA16 _ | .rst18H | .rst20H | .jpHl | .rst28H | .rst30H
  | .rst38H => true
  | _ => false

end Sys2Proof.Machine
end

