-- ==== Sys2Proof/Machine/HostCalls.lean ====
section
/-! DEFINITION. The host's other calls (10_state.md R33, R34): `step()`, `reset()`, `loadState`, `dumpState`. -/

namespace Sys2Proof.Machine

/-- The host call `step()`: `Execute()` alone, no Timer call and no interrupt check; refused unless Running
(60_exceptions.md R289, D14, D33). -/
def hostStep (s : State) : Host.Outcome State Fault Refusal :=
  match s.run with
  | .running => execute s.beginIteration
  | .halted | .faulted _ => .refused .stepNotRunning

/-- The host call `reset()`: the core's own state to its reset values from any state, with no bus call; what is the
bus's or the platform's is kept (70_reset_and_hazards.md R300; log entry 13). -/
def hostReset (s : State) : State :=
  { State.reset with mem := s.mem, rejects := s.rejects, replies := s.replies, requests := s.requests, cfg := s.cfg }

/-- The registers and the (address, value) pairs of a fixture or a dump (10_state.md R33). -/
structure Fixture where
  pc : Word
  sp : Word
  a  : Byte
  b  : Byte
  c  : Byte
  d  : Byte
  e  : Byte
  f  : Byte
  h  : Byte
  l  : Byte
  ram : List (Word × Byte)
deriving DecidableEq, Repr

/-- Every listed pair through `writeByte`, in order (10_state.md R33; log entry 15). -/
def writePairs : List (Word × Byte) → Op Unit
  | [] => pure ()
  | (addr, v) :: rest => do
    memWrite addr v
    writePairs rest

/-- Every listed address through `readByte`, in order (10_state.md R33; log entry 15). -/
def readPairs : List Word → Op (List (Word × Byte))
  | [] => pure []
  | addr :: rest => do
    let v ← memRead addr
    let tail ← readPairs rest
    return (addr, v) :: tail

/-- `loadState(s)`: `f[3:0]` is discarded; IME, eiDelay and run are not touched (10_state.md R33, D15). -/
def loadState (fx : Fixture) : Op Unit := do
  updateState fun s =>
    { s with
      pc := fx.pc, sp := fx.sp, a := fx.a, b := fx.b, c := fx.c, d := fx.d, e := fx.e
      f := Flags.ofByte fx.f, h := fx.h, l := fx.l }
  writePairs fx.ram

/-- `dumpState()` with the fixture addresses to read back (10_state.md R33). -/
def dumpState (addrs : List Word) : Op Fixture := do
  let s ← getState
  let ram ← readPairs addrs
  return { pc := s.pc, sp := s.sp, a := s.a, b := s.b, c := s.c, d := s.d, e := s.e
           f := s.f.toByte, h := s.h, l := s.l, ram := ram }

end Sys2Proof.Machine
end

