-- ==== Sys2Proof/Machine/Selectors.lean ====
section
/-! DEFINITION. The families of the opcode map by their operand fields (30_encoding.md R71 to R76): for each family the
constructor that a value of the field names, and the field codes. The decoder does not use them: it reads the grids of
R79 and R80; statements use them to speak of a whole family at once. -/

namespace Sys2Proof

/-- The field value of an 8-bit register (30_encoding.md R72). -/
def Reg8.code : Reg8 → BitVec 3
  | .b => 0 | .c => 1 | .d => 2 | .e => 3 | .h => 4 | .l => 5 | .a => 7

/-- The field value of a 16-bit operand (30_encoding.md R73). -/
def Reg16.code : Reg16 → BitVec 2
  | .bc => 0 | .de => 1 | .hl => 2 | .sp => 3

/-- The field value of a stack operand (30_encoding.md R73). -/
def Reg16S.code : Reg16S → BitVec 2
  | .bc => 0 | .de => 1 | .hl => 2 | .af => 3

/-- The field value of a condition (30_encoding.md R74). -/
def Cond.code : Cond → BitVec 2
  | .nz => 0 | .z => 1 | .nc => 2 | .c => 3

/-- The field value of an ALU operation (30_encoding.md R75). -/
def AluOp.code : AluOp → BitVec 3
  | .add => 0 | .adc => 1 | .sub => 2 | .sbc => 3 | .and => 4 | .xor => 5 | .or => 6 | .cp => 7

/-- The field value of a rotate or shift (30_encoding.md R76). -/
def RotOp.code : RotOp → BitVec 3
  | .rlc => 0 | .rrc => 1 | .rl => 2 | .rr => 3 | .sla => 4 | .sra => 5 | .swap => 6 | .srl => 7

/-- `LD r,r'` (R101). -/
def Instr.ldRR : Reg8 → Reg8 → Instr
  | .b, .b => .ldBB
  | .b, .c => .ldBC
  | .b, .d => .ldBD
  | .b, .e => .ldBE
  | .b, .h => .ldBH
  | .b, .l => .ldBL
  | .b, .a => .ldBA
  | .c, .b => .ldCB
  | .c, .c => .ldCC
  | .c, .d => .ldCD
  | .c, .e => .ldCE
  | .c, .h => .ldCH
  | .c, .l => .ldCL
  | .c, .a => .ldCA
  | .d, .b => .ldDB
  | .d, .c => .ldDC
  | .d, .d => .ldDD
  | .d, .e => .ldDE
  | .d, .h => .ldDH
  | .d, .l => .ldDL
  | .d, .a => .ldDA
  | .e, .b => .ldEB
  | .e, .c => .ldEC
  | .e, .d => .ldED
  | .e, .e => .ldEE
  | .e, .h => .ldEH
  | .e, .l => .ldEL
  | .e, .a => .ldEA
  | .h, .b => .ldHB
  | .h, .c => .ldHC
  | .h, .d => .ldHD
  | .h, .e => .ldHE
  | .h, .h => .ldHH
  | .h, .l => .ldHL
  | .h, .a => .ldHA
  | .l, .b => .ldLB
  | .l, .c => .ldLC
  | .l, .d => .ldLD
  | .l, .e => .ldLE
  | .l, .h => .ldLH
  | .l, .l => .ldLL
  | .l, .a => .ldLA
  | .a, .b => .ldAB
  | .a, .c => .ldAC
  | .a, .d => .ldAD
  | .a, .e => .ldAE
  | .a, .h => .ldAH
  | .a, .l => .ldAL
  | .a, .a => .ldAA

/-- `LD r,(HL)` (R102). -/
def Instr.ldRMemHl : Reg8 → Instr
  | .b => .ldBMemHl
  | .c => .ldCMemHl
  | .d => .ldDMemHl
  | .e => .ldEMemHl
  | .h => .ldHMemHl
  | .l => .ldLMemHl
  | .a => .ldAMemHl

/-- `LD (HL),r` (R103). -/
def Instr.ldMemHlR : Reg8 → Instr
  | .b => .ldMemHlB
  | .c => .ldMemHlC
  | .d => .ldMemHlD
  | .e => .ldMemHlE
  | .h => .ldMemHlH
  | .l => .ldMemHlL
  | .a => .ldMemHlA

/-- `LD r,d8` (R104). -/
def Instr.ldRD8 : Reg8 → Byte → Instr
  | .b, n => .ldBD8 n
  | .c, n => .ldCD8 n
  | .d, n => .ldDD8 n
  | .e, n => .ldED8 n
  | .h, n => .ldHD8 n
  | .l, n => .ldLD8 n
  | .a, n => .ldAD8 n

/-- `LD rr,d16` (R120). -/
def Instr.ldRrD16 : Reg16 → Word → Instr
  | .bc, nn => .ldBcD16 nn
  | .de, nn => .ldDeD16 nn
  | .hl, nn => .ldHlD16 nn
  | .sp, nn => .ldSpD16 nn

/-- `INC r` (R130). -/
def Instr.incR : Reg8 → Instr
  | .b => .incB
  | .c => .incC
  | .d => .incD
  | .e => .incE
  | .h => .incH
  | .l => .incL
  | .a => .incA

/-- `INC rr` (R134). -/
def Instr.incRr : Reg16 → Instr
  | .bc => .incBc
  | .de => .incDe
  | .hl => .incHl
  | .sp => .incSp

/-- `DEC r` (R131). -/
def Instr.decR : Reg8 → Instr
  | .b => .decB
  | .c => .decC
  | .d => .decD
  | .e => .decE
  | .h => .decH
  | .l => .decL
  | .a => .decA

/-- `DEC rr` (R135). -/
def Instr.decRr : Reg16 → Instr
  | .bc => .decBc
  | .de => .decDe
  | .hl => .decHl
  | .sp => .decSp

/-- The register form of the 8-bit ALU (R141 to R162). -/
def Instr.aluR : AluOp → Reg8 → Instr
  | .add, .b => .addAB
  | .add, .c => .addAC
  | .add, .d => .addAD
  | .add, .e => .addAE
  | .add, .h => .addAH
  | .add, .l => .addAL
  | .add, .a => .addAA
  | .adc, .b => .adcAB
  | .adc, .c => .adcAC
  | .adc, .d => .adcAD
  | .adc, .e => .adcAE
  | .adc, .h => .adcAH
  | .adc, .l => .adcAL
  | .adc, .a => .adcAA
  | .sub, .b => .subB
  | .sub, .c => .subC
  | .sub, .d => .subD
  | .sub, .e => .subE
  | .sub, .h => .subH
  | .sub, .l => .subL
  | .sub, .a => .subA
  | .sbc, .b => .sbcAB
  | .sbc, .c => .sbcAC
  | .sbc, .d => .sbcAD
  | .sbc, .e => .sbcAE
  | .sbc, .h => .sbcAH
  | .sbc, .l => .sbcAL
  | .sbc, .a => .sbcAA
  | .and, .b => .andB
  | .and, .c => .andC
  | .and, .d => .andD
  | .and, .e => .andE
  | .and, .h => .andH
  | .and, .l => .andL
  | .and, .a => .andA
  | .xor, .b => .xorB
  | .xor, .c => .xorC
  | .xor, .d => .xorD
  | .xor, .e => .xorE
  | .xor, .h => .xorH
  | .xor, .l => .xorL
  | .xor, .a => .xorA
  | .or, .b => .orB
  | .or, .c => .orC
  | .or, .d => .orD
  | .or, .e => .orE
  | .or, .h => .orH
  | .or, .l => .orL
  | .or, .a => .orA
  | .cp, .b => .cpB
  | .cp, .c => .cpC
  | .cp, .d => .cpD
  | .cp, .e => .cpE
  | .cp, .h => .cpH
  | .cp, .l => .cpL
  | .cp, .a => .cpA

/-- The (HL) form of the 8-bit ALU (R142 to R163). -/
def Instr.aluMemHl : AluOp → Instr
  | .add => .addAMemHl
  | .adc => .adcAMemHl
  | .sub => .subMemHl
  | .sbc => .sbcAMemHl
  | .and => .andMemHl
  | .xor => .xorMemHl
  | .or => .orMemHl
  | .cp => .cpMemHl

/-- The immediate form of the 8-bit ALU (R143 to R164). -/
def Instr.aluD8 : AluOp → Byte → Instr
  | .add, n => .addAD8 n
  | .adc, n => .adcAD8 n
  | .sub, n => .subD8 n
  | .sbc, n => .sbcAD8 n
  | .and, n => .andD8 n
  | .xor, n => .xorD8 n
  | .or, n => .orD8 n
  | .cp, n => .cpD8 n

/-- `ADD HL,rr` (R170). -/
def Instr.addHlRr : Reg16 → Instr
  | .bc => .addHlBc
  | .de => .addHlDe
  | .hl => .addHlHl
  | .sp => .addHlSp

/-- The CB rotates and shifts of a register (R185 to R199). -/
def Instr.rotR : RotOp → Reg8 → Instr
  | .rlc, .b => .rlcB
  | .rlc, .c => .rlcC
  | .rlc, .d => .rlcD
  | .rlc, .e => .rlcE
  | .rlc, .h => .rlcH
  | .rlc, .l => .rlcL
  | .rlc, .a => .rlcA
  | .rrc, .b => .rrcB
  | .rrc, .c => .rrcC
  | .rrc, .d => .rrcD
  | .rrc, .e => .rrcE
  | .rrc, .h => .rrcH
  | .rrc, .l => .rrcL
  | .rrc, .a => .rrcA
  | .rl, .b => .rlB
  | .rl, .c => .rlC
  | .rl, .d => .rlD
  | .rl, .e => .rlE
  | .rl, .h => .rlH
  | .rl, .l => .rlL
  | .rl, .a => .rlA
  | .rr, .b => .rrB
  | .rr, .c => .rrC
  | .rr, .d => .rrD
  | .rr, .e => .rrE
  | .rr, .h => .rrH
  | .rr, .l => .rrL
  | .rr, .a => .rrA
  | .sla, .b => .slaB
  | .sla, .c => .slaC
  | .sla, .d => .slaD
  | .sla, .e => .slaE
  | .sla, .h => .slaH
  | .sla, .l => .slaL
  | .sla, .a => .slaA
  | .sra, .b => .sraB
  | .sra, .c => .sraC
  | .sra, .d => .sraD
  | .sra, .e => .sraE
  | .sra, .h => .sraH
  | .sra, .l => .sraL
  | .sra, .a => .sraA
  | .swap, .b => .swapB
  | .swap, .c => .swapC
  | .swap, .d => .swapD
  | .swap, .e => .swapE
  | .swap, .h => .swapH
  | .swap, .l => .swapL
  | .swap, .a => .swapA
  | .srl, .b => .srlB
  | .srl, .c => .srlC
  | .srl, .d => .srlD
  | .srl, .e => .srlE
  | .srl, .h => .srlH
  | .srl, .l => .srlL
  | .srl, .a => .srlA

/-- The CB rotates and shifts of the byte at HL (R186 to R200). -/
def Instr.rotMemHl : RotOp → Instr
  | .rlc => .rlcMemHl
  | .rrc => .rrcMemHl
  | .rl => .rlMemHl
  | .rr => .rrMemHl
  | .sla => .slaMemHl
  | .sra => .sraMemHl
  | .swap => .swapMemHl
  | .srl => .srlMemHl

/-- `BIT b,r` (R210). -/
def Instr.bitR (i : Fin 8) (r : Reg8) : Instr :=
  match r with
  | .b => [.bit0B, .bit1B, .bit2B, .bit3B, .bit4B, .bit5B, .bit6B, .bit7B].get i
  | .c => [.bit0C, .bit1C, .bit2C, .bit3C, .bit4C, .bit5C, .bit6C, .bit7C].get i
  | .d => [.bit0D, .bit1D, .bit2D, .bit3D, .bit4D, .bit5D, .bit6D, .bit7D].get i
  | .e => [.bit0E, .bit1E, .bit2E, .bit3E, .bit4E, .bit5E, .bit6E, .bit7E].get i
  | .h => [.bit0H, .bit1H, .bit2H, .bit3H, .bit4H, .bit5H, .bit6H, .bit7H].get i
  | .l => [.bit0L, .bit1L, .bit2L, .bit3L, .bit4L, .bit5L, .bit6L, .bit7L].get i
  | .a => [.bit0A, .bit1A, .bit2A, .bit3A, .bit4A, .bit5A, .bit6A, .bit7A].get i

/-- `BIT b,(HL)` (R211). -/
def Instr.bitMemHl (i : Fin 8) : Instr :=
  [.bit0MemHl, .bit1MemHl, .bit2MemHl, .bit3MemHl, .bit4MemHl, .bit5MemHl, .bit6MemHl, .bit7MemHl].get i

/-- `RES b,r` (R212). -/
def Instr.resR (i : Fin 8) (r : Reg8) : Instr :=
  match r with
  | .b => [.res0B, .res1B, .res2B, .res3B, .res4B, .res5B, .res6B, .res7B].get i
  | .c => [.res0C, .res1C, .res2C, .res3C, .res4C, .res5C, .res6C, .res7C].get i
  | .d => [.res0D, .res1D, .res2D, .res3D, .res4D, .res5D, .res6D, .res7D].get i
  | .e => [.res0E, .res1E, .res2E, .res3E, .res4E, .res5E, .res6E, .res7E].get i
  | .h => [.res0H, .res1H, .res2H, .res3H, .res4H, .res5H, .res6H, .res7H].get i
  | .l => [.res0L, .res1L, .res2L, .res3L, .res4L, .res5L, .res6L, .res7L].get i
  | .a => [.res0A, .res1A, .res2A, .res3A, .res4A, .res5A, .res6A, .res7A].get i

/-- `RES b,(HL)` (R213). -/
def Instr.resMemHl (i : Fin 8) : Instr :=
  [.res0MemHl, .res1MemHl, .res2MemHl, .res3MemHl, .res4MemHl, .res5MemHl, .res6MemHl, .res7MemHl].get i

/-- `SET b,r` (R214). -/
def Instr.setR (i : Fin 8) (r : Reg8) : Instr :=
  match r with
  | .b => [.set0B, .set1B, .set2B, .set3B, .set4B, .set5B, .set6B, .set7B].get i
  | .c => [.set0C, .set1C, .set2C, .set3C, .set4C, .set5C, .set6C, .set7C].get i
  | .d => [.set0D, .set1D, .set2D, .set3D, .set4D, .set5D, .set6D, .set7D].get i
  | .e => [.set0E, .set1E, .set2E, .set3E, .set4E, .set5E, .set6E, .set7E].get i
  | .h => [.set0H, .set1H, .set2H, .set3H, .set4H, .set5H, .set6H, .set7H].get i
  | .l => [.set0L, .set1L, .set2L, .set3L, .set4L, .set5L, .set6L, .set7L].get i
  | .a => [.set0A, .set1A, .set2A, .set3A, .set4A, .set5A, .set6A, .set7A].get i

/-- `SET b,(HL)` (R215). -/
def Instr.setMemHl (i : Fin 8) : Instr :=
  [.set0MemHl, .set1MemHl, .set2MemHl, .set3MemHl, .set4MemHl, .set5MemHl, .set6MemHl, .set7MemHl].get i

/-- `JP cc,a16` (R222). -/
def Instr.jpCcA16 : Cond → Word → Instr
  | .nz, addr => .jpNzA16 addr
  | .z, addr => .jpZA16 addr
  | .nc, addr => .jpNcA16 addr
  | .c, addr => .jpCA16 addr

/-- `JR cc,e8` (R225). -/
def Instr.jrCcE8 : Cond → Byte → Instr
  | .nz, e => .jrNzE8 e
  | .z, e => .jrZE8 e
  | .nc, e => .jrNcE8 e
  | .c, e => .jrCE8 e

/-- `CALL cc,a16` (R227). -/
def Instr.callCcA16 : Cond → Word → Instr
  | .nz, addr => .callNzA16 addr
  | .z, addr => .callZA16 addr
  | .nc, addr => .callNcA16 addr
  | .c, addr => .callCA16 addr

/-- `RET cc` (R229). -/
def Instr.retCc : Cond → Instr
  | .nz => .retNz
  | .z => .retZ
  | .nc => .retNc
  | .c => .retC

/-- `RST n`, n = y × 8 (R231). -/
def Instr.rst (y : Fin 8) : Instr :=
  [.rst00H, .rst08H, .rst10H, .rst18H, .rst20H, .rst28H, .rst30H, .rst38H].get y

/-- `PUSH rr` (R240). -/
def Instr.pushRr : Reg16S → Instr
  | .bc => .pushBc
  | .de => .pushDe
  | .hl => .pushHl
  | .af => .pushAf

/-- `POP rr` (R241) and `POP AF` (R242). -/
def Instr.popRr : Reg16S → Instr
  | .bc => .popBc
  | .de => .popDe
  | .hl => .popHl
  | .af => .popAf

/-- `LD A,(HL+)` (R110) and, with false, `LD A,(HL-)` (R111). -/
def Instr.ldAMemHlStep : Bool → Instr
  | true => .ldAMemHlInc
  | false => .ldAMemHlDec

/-- `LD (HL+),A` (R112) and, with false, `LD (HL-),A` (R113). -/
def Instr.ldMemHlStepA : Bool → Instr
  | true => .ldMemHlIncA
  | false => .ldMemHlDecA

/-- The illegal opcodes (30_encoding.md R81). -/
def illegalOpcodes : List Byte :=
  [0xD3#8, 0xDB#8, 0xDD#8, 0xE3#8, 0xE4#8, 0xEB#8, 0xEC#8, 0xED#8, 0xF4#8, 0xFC#8, 0xFD#8]

/-- The instruction of an illegal opcode (48_misc.md R260). -/
def Instr.illegal (k : Fin 11) : Instr :=
  [.illegalD3, .illegalDB, .illegalDD, .illegalE3, .illegalE4, .illegalEB,
   .illegalEC, .illegalED, .illegalF4, .illegalFC, .illegalFD].get k

end Sys2Proof
end

