-- ==== Sys2Proof/WellFormed.lean ====
section
/-! DEFINITION. Well-formed instructions. Operand fields are typed (Syntax.lean), so one check is left: PREFIX CB is
the first byte of the 256 CB instructions and no instruction by itself; the CB byte is fetched and dispatched on before
anything can happen between the two (48_misc.md R259, 30_encoding.md R80; log entry 6). -/

namespace Sys2Proof

/-- The instruction is a whole one: not the bare prefix entry of the primary grid. -/
def Instr.wellFormed : Instr → Bool
  | .prefixCb _ => false
  | _ => true

end Sys2Proof
end

