-- ==== Sys2Proof/Safety.lean ====
section
/-! DEFINITION. The terms the statements use: a bus that accepts a call, what a state is after a completed or a rejected
call, the invariant of the state, and what a safe run is (no Faulted state is entered). -/

namespace Sys2Proof.Machine

/-- The next call is accepted, if it is a read of the address (20_memory.md R59). -/
abbrev State.Readable (s : State) (addr : Word) : Prop := s.accepts ⟨.read, addr⟩ = true

/-- The next call is accepted, if it is a write of the address (20_memory.md R59). -/
abbrev State.Writable (s : State) (addr : Word) : Prop := s.accepts ⟨.write, addr⟩ = true

/-- The call fails, whatever it is (20_memory.md R59). -/
def BusReply.fails (r : BusReply) : Bool := r matches .platform none _

/-- The bytes the platform itself changes at the call (D1). -/
def BusReply.changes : BusReply → List (Word × Byte)
  | .asMemory => []
  | .platform _ changes => changes

/-- A bus that never fails (20_memory.md R59). -/
abbrev State.BusNeverFails (s : State) : Prop := s.rejects = [] ∧ ∀ r ∈ s.replies, r.fails = false

/-- A bus that acts as the memory, calls it rejects apart (20_memory.md R64). -/
abbrev State.BusIsMemory (s : State) : Prop := ∀ r ∈ s.replies, r = .asMemory

/-- The addresses whose bytes the platform itself may change at a coming call (D1; log entry 17). -/
def State.platformChanges (s : State) : List Word := s.replies.flatMap fun r => r.changes.map (·.1)

/-- The handler has reported `n` m-cycles (30_encoding.md R78). -/
def State.returns (s : State) (n : Nat) : State := { s with cycles := some n }

/-- A completed `readByte`: the call is observable (20_memory.md R58); the bus may change its own bytes (D1). -/
def State.didRead (s : State) (addr : Word) : State :=
  { s with mem := s.memAfterCall [], replies := s.replies.tail
           busCalls := s.busCalls ++ [⟨.read, addr, s.readValue addr⟩] }

/-- A completed `writeByte`: the call is observable (20_memory.md R58); the memory stores the byte (R64), another bus
does what it does (D1). -/
def State.didWrite (s : State) (addr : Word) (v : Byte) : State :=
  { s with mem := s.memAfterCall [(addr, v)], replies := s.replies.tail
           busCalls := s.busCalls ++ [⟨.write, addr, v⟩] }

/-- After a rejected call: the core as it was before it (20_memory.md R59), the bus moved on (D1). -/
def State.rejected (s : State) : State := { s with mem := s.memAfterCall [], replies := s.replies.tail }

/-- A list of `writeByte` calls is accepted, each in the state the earlier ones leave (20_memory.md R59). -/
def State.acceptsWrites (s : State) : List (Word × Byte) → Bool
  | [] => true
  | (addr, v) :: rest => s.accepts ⟨.write, addr⟩ && (s.didWrite addr v).acceptsWrites rest

/-- After a list of completed `writeByte` calls. -/
def State.didWrites (s : State) : List (Word × Byte) → State
  | [] => s
  | (addr, v) :: rest => (s.didWrite addr v).didWrites rest

/-- A list of `readByte` calls is accepted, each in the state the earlier ones leave (20_memory.md R59). -/
def State.acceptsReads (s : State) : List Word → Bool
  | [] => true
  | addr :: rest => s.accepts ⟨.read, addr⟩ && (s.didRead addr).acceptsReads rest

/-- What a list of `readByte` calls returns. -/
def State.readValues (s : State) : List Word → List (Word × Byte)
  | [] => []
  | addr :: rest => (addr, s.readValue addr) :: (s.didRead addr).readValues rest

/-- After a list of completed `readByte` calls. -/
def State.didReads (s : State) : List Word → State
  | [] => s
  | addr :: rest => (s.didRead addr).didReads rest

/-- An instruction that ended at a rejected call: Faulted, no count reported (60_exceptions.md R272). -/
def State.busFault (s : State) (addr : Word) (dir : Dir) : State :=
  { s.rejected with run := .faulted (.busError addr dir), cycles := none }

/-- Both stack writes of a push of `v` are accepted, the low byte's after the high byte's. -/
abbrev State.CanPush (s : State) (v : Word) : Prop :=
  s.Writable (s.sp - 1) ∧ (s.didWrite (s.sp - 1) (v.extractLsb' 8 8)).Writable (s.sp - 2)

/-- Both stack reads of a pop are accepted, the high byte's after the low byte's. -/
abbrev State.CanPop (s : State) : Prop := s.Readable s.sp ∧ (s.didRead s.sp).Readable (s.sp + 1)

/-- After `Push16(v)` (20_memory.md R55). -/
def State.pushed (s : State) (v : Word) : State :=
  { (s.didWrite (s.sp - 1) (v.extractLsb' 8 8)).didWrite (s.sp - 2) (v.extractLsb' 0 8) with sp := s.sp - 2 }

/-- After a `Push16(v)` that a rejected write ended: SP decremented once and nothing written, or twice and the high byte
written (20_memory.md R55, R59; 46_control.md R226). -/
def State.pushFault (s : State) (v : Word) : State :=
  if s.Writable (s.sp - 1) then
    { s.didWrite (s.sp - 1) (v.extractLsb' 8 8) with sp := s.sp - 2 }.busFault (s.sp - 2) .write
  else { s with sp := s.sp - 1 }.busFault (s.sp - 1) .write

/-- The word `Pop16()` returns (20_memory.md R56). -/
def State.topWord (s : State) : Word := (s.didRead s.sp).readValue (s.sp + 1) ++ s.readValue s.sp

/-- After `Pop16()` (20_memory.md R56). -/
def State.popped (s : State) : State := { (s.didRead s.sp).didRead (s.sp + 1) with sp := s.sp + 2 }

/-- After a `Pop16()` that a rejected read ended: SP unchanged, or incremented once (20_memory.md R56, R59). -/
def State.popFault (s : State) : State :=
  if s.Readable s.sp then { s.didRead s.sp with sp := s.sp + 1 }.busFault (s.sp + 1) .read
  else s.busFault s.sp .read

/-- The invariant of the state: canonical memory, and distinct addresses of IE and IF (92_eei_decisions.md D7). -/
abbrev State.Inv (s : State) : Prop := s.mem.wf ∧ s.cfg.Valid

/-- The core is not Faulted (10_state.md R31). -/
def RunState.operational : RunState → Bool
  | .running | .halted => true
  | .faulted _ => false

/-- A step is safe when it gives a state that is not Faulted. -/
def SafeStep (s : State) : Prop := ∃ s', step s = .next s' ∧ s'.run.operational = true

/-- The bytes `Execute()` fetches before the handler acts, for an opcode (30_encoding.md R70; STOP's second byte is its
handler's, 48_misc.md R256). -/
def fetchedBytes (op : Byte) : Nat := operandFetches op + 1

/-- After `n` bytes were fetched from PC on, one read each (30_encoding.md R77; 10_state.md R28). -/
def State.afterFetch (s : State) : Nat → State
  | 0 => s
  | n + 1 => { (s.afterFetch n).didRead (s.pc + BitVec.ofNat 16 n) with pc := s.pc + BitVec.ofNat 16 (n + 1) }

/-- The state after `n` bytes were fetched in a new iteration: what a handler starts in (10_state.md R28). -/
def State.fetched (s : State) (n : Nat) : State := s.beginIteration.afterFetch n

/-- The read of the `k`-th byte from PC on is accepted, the earlier ones made (30_encoding.md R77). -/
abbrev State.CanFetch (s : State) (k : Nat) : Prop := (s.fetched k).Readable (s.pc + BitVec.ofNat 16 k)

/-- The `k`-th byte fetched from PC on (30_encoding.md R77). -/
def State.fetchedByte (s : State) (k : Nat) : Byte := (s.fetched k).readValue (s.pc + BitVec.ofNat 16 k)

/-- After `Timer.inc(n)`, with the device requests of that call (60_exceptions.md R288). -/
def State.timed (s : State) (n : Nat) : State :=
  ({ s with timerCalls := s.timerCalls ++ [n] } : State).deviceRequests

end Sys2Proof.Machine
end

