-- ==== Sys2Proof/Certificates/Slice0/Obligations.lean ====
section
/-! DEFINITION. The statements for the provers. Each is about the machine, for every state and operand; expected results
are written in the closed forms of the spec's rules, not with the kernel's folds. A docstring's "Spec's own choices" names
the rows of 92_eei_decisions.md (D<n>) and 93_implementation_defined.md (G<n>) behind a clause: the opcode values D4 and the
m-cycle counts D5, among others, are the spec's, not its source document's. The statements hold for every bus: what a call
answers is `accepts` and `readValue` of the state the call is made in, after the calls before it; how the state holds the
parameter BUS of D1 is the model's choice (log entries 1, 14, 17). -/

open Sys2Proof Sys2Proof.Machine

namespace Sys2Proof.Expected

/-- The result of each ALU operation on `a` and `b` with the carry `c`, and its flags (42_alu8.md R140 in the closed
forms of 00_scope.md R15). -/
def alu (op : AluOp) (a b : Byte) (c : Bool) : Byte × Flags :=
  let k := c.toNat
  let sum (k : Nat) : Byte × Flags :=
    let r := BitVec.ofNat 8 (a.toNat + b.toNat + k)
    (r, { z := decide (r = 0#8), n := false, h := decide (a.toNat % 16 + b.toNat % 16 + k > 0xF)
          c := decide (a.toNat + b.toNat + k > 0xFF) })
  let difference (k : Nat) : Byte × Flags :=
    let r := BitVec.ofNat 8 (a.toNat + 256 - b.toNat - k)
    (r, { z := decide (r = 0#8), n := true, h := decide (a.toNat % 16 < b.toNat % 16 + k)
          c := decide (a.toNat < b.toNat + k) })
  let logic (r : Byte) (h : Bool) : Byte × Flags := (r, { z := decide (r = 0#8), n := false, h := h, c := false })
  match op with
  | .add => sum 0
  | .adc => sum k
  | .sub => difference 0
  | .sbc => difference k
  | .and => logic (a &&& b) true
  | .xor => logic (a ^^^ b) false
  | .or => logic (a ||| b) false
  | .cp => (a, (difference 0).2)

/-- The result of each rotate or shift and the bit that goes to carry (44_rotate_shift.md R184), by concatenation of
bit fields. -/
def rot (op : RotOp) (c : Bool) (v : Byte) : Byte × Bool :=
  match op with
  | .rlc => (v.extractLsb' 0 7 ++ v.extractLsb' 7 1, v.getLsbD 7)
  | .rrc => (v.extractLsb' 0 1 ++ v.extractLsb' 1 7, v.getLsbD 0)
  | .rl => (v.extractLsb' 0 7 ++ BitVec.ofBool c, v.getLsbD 7)
  | .rr => (BitVec.ofBool c ++ v.extractLsb' 1 7, v.getLsbD 0)
  | .sla => (v.extractLsb' 0 7 ++ 0#1, v.getLsbD 7)
  | .sra => (v.extractLsb' 7 1 ++ v.extractLsb' 1 7, v.getLsbD 0)
  | .swap => (v.extractLsb' 0 4 ++ v.extractLsb' 4 4, false)
  | .srl => (0#1 ++ v.extractLsb' 1 7, v.getLsbD 0)

/-- The flags of a CB rotate or shift (44_rotate_shift.md R184). -/
def rotFlags (r : Byte × Bool) : Flags := { z := decide (r.1 = 0#8), n := false, h := false, c := r.2 }

/-- The flags of INC: C unchanged (41_incdec.md R130). -/
def incFlags (old : Flags) (v : Byte) : Flags :=
  { z := decide (v + 1 = 0#8), n := false, h := decide (v &&& 0xF#8 = 0xF#8), c := old.c }

/-- The flags of DEC: C unchanged (41_incdec.md R131). -/
def decFlags (old : Flags) (v : Byte) : Flags :=
  { z := decide (v - 1 = 0#8), n := true, h := decide (v &&& 0xF#8 = 0#8), c := old.c }

/-- The flags of SP plus a displacement byte: an unsigned 8-bit sum (43_alu16.md R171). -/
def spFlags (sp : Word) (e : Byte) : Flags :=
  { z := false, n := false, h := decide (sp.toNat % 16 + e.toNat % 16 > 0xF)
    c := decide (sp.toNat % 256 + e.toNat > 0xFF) }

/-- Two packed decimal digits (00_scope.md glossary, "DAA, BCD correction"). -/
def bcd (n : Nat) : Byte := BitVec.ofNat 8 (n / 10 * 16 + n % 10)

/-- What DAA adds (or, with N, subtracts) (48_misc.md R251). -/
def daaCorrection (a : Byte) (f : Flags) : Nat :=
  if f.n then (if f.c then 0x60 else 0) + (if f.h then 0x06 else 0)
  else (if f.c ∨ a.toNat > 0x99 then 0x60 else 0) + (if f.h ∨ a.toNat % 16 > 9 then 0x06 else 0)

end Sys2Proof.Expected

/-! ### Encoding -/

/-- Every whole instruction decodes from its encoding, whatever follows it (30_encoding.md R70, R77, R79, R80).
Spec's own choices: D4. -/
def Obligations.DecodeOfEncode : Prop :=
  ∀ (i : Instr) (rest : List Byte), i.wellFormed = true → decode (encode i ++ rest) = .ok (i, rest)

/-- Each byte sequence has one meaning: what decodes is the encoding of the answer (STOP's second byte is not checked),
the answer is a whole instruction, and decoding fails exactly when the sequence is shorter than the length its first byte
fixes (30_encoding.md R70, R82, R83).
Spec's own choices: D4, D9. -/
def Obligations.EncodeOfDecode : Prop :=
  (∀ (bytes rest : List Byte) (i : Instr), decode bytes = .ok (i, rest) →
    i.wellFormed = true ∧ (bytes.head? ≠ some 0x10#8 → bytes = encode i ++ rest)) ∧
  (∀ (op : Byte) (rest : List Byte),
    (∃ e, decode (op :: rest) = .error e) ↔ rest.length + 1 < instrLength op) ∧
  decode [] = .error .noOpcode

/-- A few words written out from the spec's encodings decode to their instructions (40_loads.md to 48_misc.md, "Encoding").
Spec's own choices: D4. -/
def Obligations.SampleWordsDecode : Prop :=
  decode [0b01000001#8] = .ok (.ldBC, []) ∧
  decode [0b00110001#8, 0xFE#8, 0xFF#8] = .ok (.ldSpD16 0xFFFE#16, []) ∧
  decode [0b00001101#8] = .ok (.decC, []) ∧
  decode [0b10011100#8] = .ok (.sbcAH, []) ∧
  decode [0b00011001#8] = .ok (.addHlDe, []) ∧
  decode [0xCB#8, 0b00110111#8] = .ok (.swapA, []) ∧
  decode [0xCB#8, 0b01010110#8] = .ok (.bit2MemHl, []) ∧
  decode [0b11001101#8, 0x34#8, 0x12#8] = .ok (.callA16 0x1234#16, []) ∧
  decode [0b11110101#8] = .ok (.pushAf, []) ∧
  decode [0b01110110#8] = .ok (.halt, [])

/-- The illegal opcodes are exactly the eleven of R81, and dispatching one enters Faulted(IllegalOpcode) with the opcode
and its own address, and changes nothing else (30_encoding.md R81, 48_misc.md R260, 60_exceptions.md R273).
Spec's own choices: D4. -/
def Obligations.IllegalOpcodesFault : Prop :=
  (∀ op b1 b2 : Byte, (∃ k, decodeBytes op b1 b2 = Instr.illegal k) ↔
    op ∈ [0xD3#8, 0xDB#8, 0xDD#8, 0xE3#8, 0xE4#8, 0xEB#8, 0xEC#8, 0xED#8, 0xF4#8, 0xFC#8, 0xFD#8]) ∧
  ∀ (op b1 b2 : Byte) (k : Fin 11) (s : State), decodeBytes op b1 b2 = Instr.illegal k →
    exec (Instr.illegal k) s =
      .next { s with run := .faulted (.illegalOpcode op (s.pc - 1)), cycles := none }

/-! ### The kernel -/

/-- The closed forms of Apply, CarryOccurs and HalfCarry at width 8 with a carry-in (00_scope.md R15, which the spec
derives from R10 and R11). -/
def Obligations.KernelClosedForms : Prop :=
  ∀ (a b : Byte) (c : Nat) (s : State), c ≤ 1 →
    apply .add 8 a.toNat [b.toNat, c] = (a.toNat + b.toNat + c) % 256 ∧
    carryOccurs .add 8 a.toNat [b.toNat, c] = decide (a.toNat + b.toNat + c > 0xFF) ∧
    halfCarry .add 8 a.toNat [b.toNat, c] s =
      .ok (decide (a.toNat % 16 + b.toNat % 16 + c > 0xF)) s ∧
    (apply .sub 8 a.toNat [b.toNat, c] : Int) = ((a.toNat : Int) - b.toNat - c) % 256 ∧
    carryOccurs .sub 8 a.toNat [b.toNat, c] = decide ((a.toNat : Int) - b.toNat - c < 0) ∧
    halfCarry .sub 8 a.toNat [b.toNat, c] s =
      .ok (decide (((a.toNat % 16 : Nat) : Int) - (b.toNat % 16 : Nat) - c < 0)) s

/-- Apply is total with a result in [0, 2^w - 1] for any operands; And, Xor and Or never carry (00_scope.md R10, R11). -/
def Obligations.ApplyStaysInWidth : Prop :=
  ∀ (op : KernelOp) (w left : Nat) (rights : List Nat),
    apply op w left rights < 2 ^ w ∧
    (op ≠ .add → op ≠ .sub → carryOccurs op w left rights = false)

/-- HalfCarry on an even width is CarryOccurs at half the width; on an odd width it is the kernel assertion, and no
instruction reaches that fault (00_scope.md R12, 60_exceptions.md R271). -/
def Obligations.KernelAssertionOnlyOnOddWidth : Prop :=
  (∀ (op : KernelOp) (w left : Nat) (rights : List Nat) (s : State),
    halfCarry op (2 * w) left rights s = .ok (carryOccurs op w left rights) s ∧
    halfCarry op (2 * w + 1) left rights s = .error (.kernelAssertion (2 * w + 1)) s) ∧
  ∀ (i : Instr) (s s' : State) (w : Nat), exec i s = .next s' →
    s'.run = .faulted (.kernelAssertion w) → s.run = .faulted (.kernelAssertion w)

/-! ### Registers, reset, host calls -/

/-- The register accessors in the raw fields: each of the seven 8-bit operands reads and writes its own register and nothing
else; each pair reads as its halves, high register first, and a pair write sets both halves and nothing else, as a 16-bit
operand and as a stack operand; SP is read and written whole; the low nibble of F reads zero and cannot be written
(10_state.md R22, R23, R24). -/
def Obligations.PairsAreViews : Prop :=
  ∀ (s : State) (n : Byte) (v : Word),
    (s.getR8 .b = s.b ∧ s.getR8 .c = s.c ∧ s.getR8 .d = s.d ∧ s.getR8 .e = s.e ∧ s.getR8 .h = s.h ∧ s.getR8 .l = s.l ∧
      s.getR8 .a = s.a) ∧
    (s.setR8 .b n = { s with b := n } ∧ s.setR8 .c n = { s with c := n } ∧ s.setR8 .d n = { s with d := n } ∧
      s.setR8 .e n = { s with e := n } ∧ s.setR8 .h n = { s with h := n } ∧ s.setR8 .l n = { s with l := n } ∧
      s.setR8 .a n = { s with a := n }) ∧
    (s.getR16 .bc = s.b ++ s.c ∧ s.getR16 .de = s.d ++ s.e ∧ s.getR16 .hl = s.h ++ s.l ∧ s.getR16 .sp = s.sp) ∧
    (s.setR16 .bc v = { s with b := v.extractLsb' 8 8, c := v.extractLsb' 0 8 } ∧
      s.setR16 .de v = { s with d := v.extractLsb' 8 8, e := v.extractLsb' 0 8 } ∧
      s.setR16 .hl v = { s with h := v.extractLsb' 8 8, l := v.extractLsb' 0 8 } ∧
      s.setR16 .sp v = { s with sp := v }) ∧
    (s.getR16S .bc = s.b ++ s.c ∧ s.getR16S .de = s.d ++ s.e ∧ s.getR16S .hl = s.h ++ s.l ∧
      s.getR16S .af = s.a ++ s.f.toByte) ∧
    (s.setR16S .bc v = { s with b := v.extractLsb' 8 8, c := v.extractLsb' 0 8 } ∧
      s.setR16S .de v = { s with d := v.extractLsb' 8 8, e := v.extractLsb' 0 8 } ∧
      s.setR16S .hl v = { s with h := v.extractLsb' 8 8, l := v.extractLsb' 0 8 } ∧
      s.setR16S .af v =
        { s with a := v.extractLsb' 8 8
                 f := { z := v.getLsbD 7, n := v.getLsbD 6, h := v.getLsbD 5, c := v.getLsbD 4 } }) ∧
    (s.f.toByte = BitVec.ofBool s.f.z ++ BitVec.ofBool s.f.n ++ BitVec.ofBool s.f.h ++ BitVec.ofBool s.f.c ++ 0#4) ∧
    (∀ r : Reg8, (s.setR8 r n).getR8 r = n) ∧ (∀ r : Reg16, (s.setR16 r v).getR16 r = v) ∧
    (∀ r : Reg16S, r ≠ .af → (s.setR16S r v).getR16S r = v) ∧
    (s.setR16S .af v).getR16S .af = v &&& 0xFFF0#16

/-- The core after construction and after `reset()`, from any state: every register and flag zero, so F zero, IME and eiDelay
false, Running (10_state.md R36). -/
def Obligations.ResetZeroesTheCore : Prop :=
  ∀ s : State, ∀ t ∈ [State.reset, hostReset s],
    t.a = 0x00#8 ∧ t.b = 0x00#8 ∧ t.c = 0x00#8 ∧ t.d = 0x00#8 ∧ t.e = 0x00#8 ∧ t.h = 0x00#8 ∧ t.l = 0x00#8 ∧
    t.f.z = false ∧ t.f.n = false ∧ t.f.h = false ∧ t.f.c = false ∧ t.f.toByte = 0x00#8 ∧
    t.sp = 0x0000#16 ∧ t.pc = 0x0000#16 ∧ t.ime = false ∧ t.eiDelay = false ∧ t.run = .running

/-- `reset()` from any state, Halted and Faulted ones too, gives a Running core, makes no bus call and keeps memory, IE and
IF; no iteration and no `step()` call of a Faulted core gives a next state (70_reset_and_hazards.md R300, 10_state.md R31).
That it keeps what the bus and the platform will do (rejected sites, replies, so what the next call answers, and device
requests) and the parameters, and empties the three report fields, the record of the bus calls among them, is the model's
choice (log entries 9, 13). -/
def Obligations.ResetKeepsTheBus : Prop :=
  ∀ s : State, let t := hostReset s
    t.run = .running ∧
    (∀ addr : Word, t.byteAt addr = s.byteAt addr ∧ t.readValue addr = s.readValue addr) ∧
    (∀ site : BusSite, t.accepts site = s.accepts site) ∧
    t.rejects = s.rejects ∧ t.replies = s.replies ∧ t.requests = s.requests ∧ t.cfg = s.cfg ∧
    t.busCalls = [] ∧ t.timerCalls = [] ∧ t.cycles = none ∧
    State.reset.busCalls = [] ∧ State.reset.timerCalls = [] ∧ State.reset.cycles = none ∧
    ∀ f, s.run = .faulted f → (∀ u, step s ≠ .next u) ∧ ∀ u, hostStep s ≠ .next u

/-- The reset state meets the invariant of the state. That nothing is listed in memory and that the parameters have the
spec's values at reset are the model's choices (log entries 2, 3). -/
def Obligations.ResetMeetsInvariant : Prop :=
  State.reset.Inv ∧ ∀ s : State, s.Inv → (hostReset s).Inv

/-- `loadState` on a bus that never fails writes the registers of the fixture, discards `f[3:0]`, leaves IME, eiDelay and run,
and makes one `writeByte` call for each listed pair; `dumpState` of the result reads the registers back, with F's low nibble
zero. On the memory the listed bytes are stored (the last one listed for an address; the others as before), and `dumpState`
reads the bytes back at every address it is given, changing none (10_state.md R33). That the calls are made in the listed
order is the model's choice (log entry 15). Spec's own choices: D15. -/
def Obligations.LoadThenDumpRegisters : Prop :=
  ∀ (fx : Fixture) (s : State), s.BusNeverFails → ∃ t, loadState fx s = .ok () t ∧
    t.ime = s.ime ∧ t.eiDelay = s.eiDelay ∧ t.run = s.run ∧
    t.busCalls = s.busCalls ++ fx.ram.map (fun p => ⟨.write, p.1, p.2⟩) ∧
    dumpState [] t = .ok { fx with f := fx.f &&& 0xF0#8, ram := [] } t ∧
    (s.mem.wf → s.BusIsMemory →
      (∀ addr : Word, t.byteAt addr = match fx.ram.reverse.find? (fun p => p.1 = addr) with
        | some p => p.2
        | none => s.byteAt addr) ∧
      ∀ addrs : List Word, ∃ u,
        dumpState addrs t = .ok { fx with f := fx.f &&& 0xF0#8, ram := addrs.map fun a => (a, t.byteAt a) } u ∧
        u.mem = t.mem)

/-- The calls of `loadState` and `dumpState` on every bus: the registers first, then one `writeByte` for each listed pair, one
`readByte` for each address; a rejected call ends either with the BusError, the earlier calls made (10_state.md R33,
20_memory.md R59). The order of the calls, and that a rejected one ends the load or the dump with run unchanged, is the
model's choice (log entry 15). -/
def Obligations.LoadAndDumpCalls : Prop :=
  ∀ (fx : Fixture) (s : State) (addrs : List Word),
    let loaded : State := { s with
      pc := fx.pc, sp := fx.sp, a := fx.a, b := fx.b, c := fx.c, d := fx.d, e := fx.e, h := fx.h, l := fx.l
      f := { z := fx.f.getLsbD 7, n := fx.f.getLsbD 6, h := fx.f.getLsbD 5, c := fx.f.getLsbD 4 } }
    (loaded.acceptsWrites fx.ram = true → loadState fx s = .ok () (loaded.didWrites fx.ram)) ∧
    (∀ before addr v after, fx.ram = before ++ (addr, v) :: after → loaded.acceptsWrites before = true →
      ¬ (loaded.didWrites before).Writable addr →
      loadState fx s = .error (.busError addr .write) (loaded.didWrites before).rejected) ∧
    (s.acceptsReads addrs = true → dumpState addrs s =
      .ok { pc := s.pc, sp := s.sp, a := s.a, b := s.b, c := s.c, d := s.d, e := s.e, f := s.f.toByte, h := s.h, l := s.l
            ram := s.readValues addrs } (s.didReads addrs)) ∧
    (∀ before addr after, addrs = before ++ addr :: after → s.acceptsReads before = true →
      ¬ (s.didReads before).Readable addr →
      dumpState addrs s = .error (.busError addr .read) (s.didReads before).rejected)

/-! ### Memory, the stack and the bus -/

/-- What one bus call does, by the bus's reply: as the memory it answers the byte held, a write stores its byte and nothing
else, and the rejected sites fail; a platform's own reply answers its byte, or fails, and changes the bytes it names and no
others, whatever the call (20_memory.md R51, R58, R59, R64). That the parameter BUS is held as a list of replies is the
model's choice (log entries 1, 14, 17). Spec's own choices: D1. -/
def Obligations.BusCallsByReply : Prop :=
  ∀ (s : State) (addr : Word) (v : Byte),
    let rest := s.replies.tail
    (s.reply = .asMemory →
      memRead addr s = (if BusSite.mk .read addr ∈ s.rejects then .error (.busError addr .read) { s with replies := rest }
        else .ok (s.byteAt addr) { s with replies := rest, busCalls := s.busCalls ++ [⟨.read, addr, s.byteAt addr⟩] }) ∧
      memWrite addr v s = (if BusSite.mk .write addr ∈ s.rejects then .error (.busError addr .write) { s with replies := rest }
        else .ok () { s with
          mem := s.mem.write addr.toNat v, replies := rest, busCalls := s.busCalls ++ [⟨.write, addr, v⟩] })) ∧
    (∀ byte changes, s.reply = .platform (some byte) changes → let bus := s.mem.storeAll changes
      memRead addr s =
        .ok byte { s with mem := bus, replies := rest, busCalls := s.busCalls ++ [⟨.read, addr, byte⟩] } ∧
      memWrite addr v s =
        .ok () { s with mem := bus, replies := rest, busCalls := s.busCalls ++ [⟨.write, addr, v⟩] }) ∧
    (∀ changes, s.reply = .platform none changes → let bus := s.mem.storeAll changes
      memRead addr s = .error (.busError addr .read) { s with mem := bus, replies := rest } ∧
      memWrite addr v s = .error (.busError addr .write) { s with mem := bus, replies := rest })

/-- A read after a write gives the byte written, and every other address reads as before, on every memory in canonical form
and on every state whose bus acts as the memory (20_memory.md R60, R64).
Spec's own choices: D1. -/
def Obligations.MemoryReadAfterWrite : Prop :=
  (∀ (m : Memory) (addr : Nat) (v : Byte), m.wf →
    (m.write addr v).read addr = v ∧
    ∀ other, other ≠ addr → (m.write addr v).read other = m.read other) ∧
  ∀ (s : State) (addr : Word) (v : Byte), s.mem.wf → s.BusIsMemory →
    (s.didWrite addr v).readValue addr = v ∧
    ∀ other, other ≠ addr → (s.didWrite addr v).readValue other = s.readValue other

/-- A double-byte access is two byte calls, little-endian, low address first, with `addr + 1` modulo 2^16 (20_memory.md
R52, R53).
Spec's own choices: D2, D3. -/
def Obligations.DoubleByteAccess : Prop :=
  ∀ (s : State) (addr v : Word),
    (s.Readable addr → (s.didRead addr).Readable (addr + 1) →
      memRead16 addr s =
        .ok ((s.didRead addr).readValue (addr + 1) ++ s.readValue addr) ((s.didRead addr).didRead (addr + 1))) ∧
    (s.Writable addr → (s.didWrite addr (v.extractLsb' 0 8)).Writable (addr + 1) →
      memWrite16 addr v s =
        .ok () ((s.didWrite addr (v.extractLsb' 0 8)).didWrite (addr + 1) (v.extractLsb' 8 8))) ∧
    (0xFFFF#16 + 1 : Word) = 0x0000#16

/-- Push16 writes the high byte at SP-1, then the low byte at SP-2; Pop16 reads the low byte at SP, then the high byte at
SP+1; SP moves by two modulo 2^16; a pop after a push finds SP where it was and, on the memory, gives the value back
(20_memory.md R55, R56). -/
def Obligations.PushThenPop : Prop :=
  ∀ (s : State) (v : Word),
    (s.CanPush v → push16 v s = .ok () (s.pushed v)) ∧
    (s.CanPop → pop16 s = .ok s.topWord s.popped) ∧
    (s.mem.wf → s.BusIsMemory → (s.pushed v).topWord = v) ∧ (s.pushed v).popped.sp = s.sp

/-- A rejected bus call faults with BusError of its address and direction, the core as it was just before it (20_memory.md
R59, 60_exceptions.md R272; spec's own choice D28). The k-th fetch of an instruction (the opcode's is k = 0) that the bus
rejects leaves the core Faulted with PC at that byte, the earlier fetches made, no count and no Timer call (30_encoding.md
R77, R78; the fetch of the operand bytes before the handler's other work is log entry 8; that a rejected call uses up the
bus's reply, and what the bus changes then, is log entry 17). -/
def Obligations.RejectedCallFaults : Prop :=
  (∀ (s : State) (addr : Word) (v : Byte),
    (¬ s.Readable addr → memRead addr s = .error (.busError addr .read) s.rejected) ∧
    (¬ s.Writable addr → memWrite addr v s = .error (.busError addr .write) s.rejected) ∧
    s.rejected = { s with mem := s.rejected.mem, replies := s.replies.tail }) ∧
  ∀ (s : State) (k : Nat), s.run = .running → k < fetchedBytes (s.fetchedByte 0) →
    (∀ j, j < k → s.CanFetch j) → ¬ s.CanFetch k →
    step s = .next ((s.fetched k).busFault (s.pc + BitVec.ofNat 16 k) .read)

/-! ### Loads -/

/-- LD r,r' copies the register; LD r,d8, LD rr,d16 load the immediate; LD SP,HL copies HL; no flag, nothing else
(40_loads.md R101, R104, R120, R122).
Spec's own choices: D4, D5, D30. -/
def Obligations.RegisterAndImmediateLoads : Prop :=
  ∀ (dst r : Reg8) (rr : Reg16) (n lo hi : Byte) (s : State),
    (decode [0b01#2 ++ dst.code ++ r.code] = .ok (Instr.ldRR dst r, []) ∧
      exec (Instr.ldRR dst r) s = .next ((s.setR8 dst (s.getR8 r)).returns 1)) ∧
    (decode [0b00#2 ++ dst.code ++ 0b110#3, n] = .ok (Instr.ldRD8 dst n, []) ∧
      exec (Instr.ldRD8 dst n) s = .next ((s.setR8 dst n).returns 2)) ∧
    (decode [0b00#2 ++ rr.code ++ 0b0001#4, lo, hi] = .ok (Instr.ldRrD16 rr (hi ++ lo), []) ∧
      exec (Instr.ldRrD16 rr (hi ++ lo)) s = .next ((s.setR16 rr (hi ++ lo)).returns 3)) ∧
    (decode [0xF9#8] = .ok (.ldSpHl, []) ∧
      exec .ldSpHl s = .next { s with sp := s.h ++ s.l, cycles := some 2 })

/-- The loads from memory: one read at the address the form names, then the register written; a rejected read writes
nothing (40_loads.md R102, R106, R107, R114, R116, R118).
Spec's own choices: D4, D5, D28, G5. -/
def Obligations.LoadsFromMemory : Prop :=
  ∀ (s : State) (i : Instr) (addr : Word) (r : Reg8) (n : Nat) (bytes : List Byte),
    ((∃ dst : Reg8, bytes = [0b01#2 ++ dst.code ++ 0b110#3] ∧ i = Instr.ldRMemHl dst ∧ addr = s.h ++ s.l ∧ r = dst ∧ n = 2) ∨
      (bytes = [0x0A#8] ∧ i = .ldAMemBc ∧ addr = s.b ++ s.c ∧ r = .a ∧ n = 2) ∨
      (bytes = [0x1A#8] ∧ i = .ldAMemDe ∧ addr = s.d ++ s.e ∧ r = .a ∧ n = 2) ∨
      (∃ lo hi : Byte, bytes = [0xFA#8, lo, hi] ∧ i = .ldAMemA16 (hi ++ lo) ∧ addr = hi ++ lo ∧ r = .a ∧ n = 4) ∨
      (∃ a8 : Byte, bytes = [0xF0#8, a8] ∧ i = .ldhAMemA8 a8 ∧ addr = 0xFF#8 ++ a8 ∧ r = .a ∧ n = 3) ∨
      (bytes = [0xF2#8] ∧ i = .ldAMemC ∧ addr = 0xFF#8 ++ s.c ∧ r = .a ∧ n = 2)) →
    decode bytes = .ok (i, []) ∧
    (s.Readable addr → exec i s = .next (((s.didRead addr).setR8 r (s.readValue addr)).returns n)) ∧
    (¬ s.Readable addr → exec i s = .next (s.busFault addr .read))

/-- The stores of one byte: one write at the address the form names, nothing else; a rejected write changes nothing but the
run state (40_loads.md R103, R105, R108, R109, R115, R117, R119).
Spec's own choices: D4, D5, D28, G5. -/
def Obligations.StoresToMemory : Prop :=
  ∀ (s : State) (i : Instr) (addr : Word) (v : Byte) (n : Nat) (bytes : List Byte),
    ((∃ r : Reg8, bytes = [0b01110#5 ++ r.code] ∧ i = Instr.ldMemHlR r ∧ addr = s.h ++ s.l ∧ v = s.getR8 r ∧ n = 2) ∨
      (∃ d8 : Byte, bytes = [0x36#8, d8] ∧ i = .ldMemHlD8 d8 ∧ addr = s.h ++ s.l ∧ v = d8 ∧ n = 3) ∨
      (bytes = [0x02#8] ∧ i = .ldMemBcA ∧ addr = s.b ++ s.c ∧ v = s.a ∧ n = 2) ∨
      (bytes = [0x12#8] ∧ i = .ldMemDeA ∧ addr = s.d ++ s.e ∧ v = s.a ∧ n = 2) ∨
      (∃ lo hi : Byte, bytes = [0xEA#8, lo, hi] ∧ i = .ldMemA16A (hi ++ lo) ∧ addr = hi ++ lo ∧ v = s.a ∧ n = 4) ∨
      (∃ a8 : Byte, bytes = [0xE0#8, a8] ∧ i = .ldhMemA8A a8 ∧ addr = 0xFF#8 ++ a8 ∧ v = s.a ∧ n = 3) ∨
      (bytes = [0xE2#8] ∧ i = .ldMemCA ∧ addr = 0xFF#8 ++ s.c ∧ v = s.a ∧ n = 2)) →
    decode bytes = .ok (i, []) ∧
    (s.Writable addr → exec i s = .next ((s.didWrite addr v).returns n)) ∧
    (¬ s.Writable addr → exec i s = .next (s.busFault addr .write))

/-- LD A,(HL±) and LD (HL±),A: the access at HL, then HL moved by one modulo 2^16; HL is not moved if the access faults
(40_loads.md R110, R111, R112, R113).
Spec's own choices: D4, D5, D28, G10. -/
def Obligations.LoadsAndStoresMovingHl : Prop :=
  ∀ (s : State) (up : Bool), let hl : Word := s.h ++ s.l
    let next : Word := if up then hl + 1 else hl - 1
    decode [if up then 0x2A#8 else 0x3A#8] = .ok (Instr.ldAMemHlStep up, []) ∧
    decode [if up then 0x22#8 else 0x32#8] = .ok (Instr.ldMemHlStepA up, []) ∧
    (s.Readable hl → exec (Instr.ldAMemHlStep up) s =
      .next { s.didRead hl with
        a := s.readValue hl, h := next.extractLsb' 8 8, l := next.extractLsb' 0 8, cycles := some 2 }) ∧
    (¬ s.Readable hl → exec (Instr.ldAMemHlStep up) s = .next (s.busFault hl .read)) ∧
    (s.Writable hl → exec (Instr.ldMemHlStepA up) s =
      .next { s.didWrite hl s.a with
        h := next.extractLsb' 8 8, l := next.extractLsb' 0 8, cycles := some 2 }) ∧
    (¬ s.Writable hl → exec (Instr.ldMemHlStepA up) s = .next (s.busFault hl .write))

/-- LD (a16),SP stores SP's low byte at the address and its high byte at the next one modulo 2^16; if the second write
faults the first stays (40_loads.md R121).
Spec's own choices: D2, D3, D4, D5, D28. -/
def Obligations.StoreStackPointer : Prop :=
  ∀ (s : State) (lo hi : Byte), let addr : Word := hi ++ lo
    decode [0x08#8, lo, hi] = .ok (.ldMemA16Sp addr, []) ∧
    (s.Writable addr → (s.didWrite addr (s.sp.extractLsb' 0 8)).Writable (addr + 1) → exec (.ldMemA16Sp addr) s =
      .next (((s.didWrite addr (s.sp.extractLsb' 0 8)).didWrite (addr + 1) (s.sp.extractLsb' 8 8)).returns 5)) ∧
    (¬ s.Writable addr → exec (.ldMemA16Sp addr) s = .next (s.busFault addr .write)) ∧
    (s.Writable addr → ¬ (s.didWrite addr (s.sp.extractLsb' 0 8)).Writable (addr + 1) → exec (.ldMemA16Sp addr) s =
      .next ((s.didWrite addr (s.sp.extractLsb' 0 8)).busFault (addr + 1) .write))

/-! ### Increment and decrement -/

/-- INC r and DEC r: the register by one modulo 2^8, Z, N, H; C and everything else unchanged (41_incdec.md R130, R131).
Spec's own choices: D4, D5, G3. -/
def Obligations.IncDecRegister : Prop :=
  ∀ (s : State) (r : Reg8), let v := s.getR8 r
    decode [0b00#2 ++ r.code ++ 0b100#3] = .ok (Instr.incR r, []) ∧
    exec (Instr.incR r) s = .next { s.setR8 r (v + 1) with f := Expected.incFlags s.f v, cycles := some 1 } ∧
    decode [0b00#2 ++ r.code ++ 0b101#3] = .ok (Instr.decR r, []) ∧
    exec (Instr.decR r) s = .next { s.setR8 r (v - 1) with f := Expected.decFlags s.f v, cycles := some 1 }

/-- INC (HL) and DEC (HL): a read, a write, then the flags; a rejected write leaves the flags (41_incdec.md R132, R133).
Spec's own choices: D4, D5, D28, G3. -/
def Obligations.IncDecMemory : Prop :=
  ∀ (s : State) (up : Bool), let hl : Word := s.h ++ s.l
    let v := s.readValue hl
    let i : Instr := if up then .incMemHl else .decMemHl
    let w := if up then v + 1 else v - 1
    decode [if up then 0x34#8 else 0x35#8] = .ok (i, []) ∧
    (s.Readable hl → (s.didRead hl).Writable hl → exec i s =
      .next { (s.didRead hl).didWrite hl w with
        f := if up then Expected.incFlags s.f v else Expected.decFlags s.f v, cycles := some 3 }) ∧
    (¬ s.Readable hl → exec i s = .next (s.busFault hl .read)) ∧
    (s.Readable hl → ¬ (s.didRead hl).Writable hl → exec i s = .next ((s.didRead hl).busFault hl .write))

/-- INC rr and DEC rr: the pair by one modulo 2^16, no flag (41_incdec.md R134, R135).
Spec's own choices: D4, D5. -/
def Obligations.IncDecPair : Prop :=
  ∀ (s : State) (rr : Reg16),
    decode [0b00#2 ++ rr.code ++ 0b0011#4] = .ok (Instr.incRr rr, []) ∧
    exec (Instr.incRr rr) s = .next ((s.setR16 rr (s.getR16 rr + 1)).returns 2) ∧
    decode [0b00#2 ++ rr.code ++ 0b1011#4] = .ok (Instr.decRr rr, []) ∧
    exec (Instr.decRr rr) s = .next ((s.setR16 rr (s.getR16 rr - 1)).returns 2)

/-! ### 8-bit arithmetic and logic -/

/-- The eight ALU operations on a register (42_alu8.md R140, R141, R144, R147, R150, R153, R156, R159, R162).
Spec's own choices: D4, D5, G3. -/
def Obligations.AluRegisterForms : Prop :=
  ∀ (s : State) (op : AluOp) (r : Reg8), let res := Expected.alu op s.a (s.getR8 r) s.f.c
    decode [0b10#2 ++ op.code ++ r.code] = .ok (Instr.aluR op r, []) ∧
    exec (Instr.aluR op r) s = .next { s with a := res.1, f := res.2, cycles := some 1 }

/-- The eight ALU operations on the byte at HL; a rejected read writes nothing (42_alu8.md R142, R145, R148, R151, R154,
R157, R160, R163).
Spec's own choices: D4, D5, D28, G3. -/
def Obligations.AluMemoryForms : Prop :=
  ∀ (s : State) (op : AluOp), let hl : Word := s.h ++ s.l
    let res := Expected.alu op s.a (s.readValue hl) s.f.c
    decode [0b10#2 ++ op.code ++ 0b110#3] = .ok (Instr.aluMemHl op, []) ∧
    (s.Readable hl → exec (Instr.aluMemHl op) s =
      .next { s.didRead hl with a := res.1, f := res.2, cycles := some 2 }) ∧
    (¬ s.Readable hl → exec (Instr.aluMemHl op) s = .next (s.busFault hl .read))

/-- The eight ALU operations on an immediate (42_alu8.md R143, R146, R149, R152, R155, R158, R161, R164).
Spec's own choices: D4, D5, G3. -/
def Obligations.AluImmediateForms : Prop :=
  ∀ (s : State) (op : AluOp) (n : Byte), let res := Expected.alu op s.a n s.f.c
    decode [0b11#2 ++ op.code ++ 0b110#3, n] = .ok (Instr.aluD8 op n, []) ∧
    exec (Instr.aluD8 op n) s = .next { s with a := res.1, f := res.2, cycles := some 2 }

/-! ### 16-bit arithmetic -/

/-- ADD HL,rr (carry out of bit 11 and bit 15, Z unchanged), ADD SP,e8 and LD HL,SP+e8 (flags of the unsigned low-byte sum,
Z = N = 0) (43_alu16.md R170, R171, R172).
Spec's own choices: D4, D5, D22. -/
def Obligations.SixteenBitArithmetic : Prop :=
  ∀ (s : State) (rr : Reg16) (e : Byte),
    (let v : Word := s.h ++ s.l
     let w := s.getR16 rr
     decode [0b00#2 ++ rr.code ++ 0b1001#4] = .ok (Instr.addHlRr rr, []) ∧
     exec (Instr.addHlRr rr) s =
       .next { s with
         h := (v + w).extractLsb' 8 8, l := (v + w).extractLsb' 0 8
         f := { z := s.f.z, n := false, h := decide (v.toNat % 0x1000 + w.toNat % 0x1000 > 0xFFF)
                c := decide (v.toNat + w.toNat > 0xFFFF) }
         cycles := some 2 }) ∧
    (let sum := s.sp + e.signExtend 16
     decode [0xE8#8, e] = .ok (.addSpE8 e, []) ∧
     exec (.addSpE8 e) s = .next { s with sp := sum, f := Expected.spFlags s.sp e, cycles := some 4 } ∧
     decode [0xF8#8, e] = .ok (.ldHlSpE8 e, []) ∧
     exec (.ldHlSpE8 e) s =
       .next { s with
         h := sum.extractLsb' 8 8, l := sum.extractLsb' 0 8, f := Expected.spFlags s.sp e, cycles := some 3 })

/-! ### Rotates, shifts and bits -/

/-- RLCA, RRCA, RLA, RRA: the rotated A, C the bit shifted out, N = H = 0, Z unchanged or cleared by A_ROT_Z
(44_rotate_shift.md R180, R181, R182, R183).
Spec's own choices: D4, D5, D10, G6. -/
def Obligations.AccumulatorRotates : Prop :=
  ∀ (s : State) (op : RotOp) (i : Instr) (code : Byte),
    (op, i, code) ∈ [(RotOp.rlc, Instr.rlca, 0x07#8), (.rrc, .rrca, 0x0F#8), (.rl, .rla, 0x17#8), (.rr, .rra, 0x1F#8)] →
    let res := Expected.rot op s.f.c s.a
    decode [code] = .ok (i, []) ∧
    exec i s = .next { s with
      a := res.1
      f := { z := if s.cfg.aRotZ = .cleared then false else s.f.z, n := false, h := false, c := res.2 }
      cycles := some 1 }

/-- The CB rotates and shifts of a register (44_rotate_shift.md R185, R187, R189, R191, R193, R195, R197, R199).
Spec's own choices: D4, D5, D22, G6. -/
def Obligations.RotateShiftRegister : Prop :=
  ∀ (s : State) (op : RotOp) (r : Reg8), let res := Expected.rot op s.f.c (s.getR8 r)
    decode [0xCB#8, 0b00#2 ++ op.code ++ r.code] = .ok (Instr.rotR op r, []) ∧
    exec (Instr.rotR op r) s = .next { s.setR8 r res.1 with f := Expected.rotFlags res, cycles := some 2 }

/-- The CB rotates and shifts of the byte at HL: a read, a write, then the flags (44_rotate_shift.md R186, R188, R190,
R192, R194, R196, R198, R200).
Spec's own choices: D4, D5, D22, D28, G6. -/
def Obligations.RotateShiftMemory : Prop :=
  ∀ (s : State) (op : RotOp), let hl : Word := s.h ++ s.l
    let res := Expected.rot op s.f.c (s.readValue hl)
    decode [0xCB#8, 0b00#2 ++ op.code ++ 0b110#3] = .ok (Instr.rotMemHl op, []) ∧
    (s.Readable hl → (s.didRead hl).Writable hl → exec (Instr.rotMemHl op) s =
      .next { (s.didRead hl).didWrite hl res.1 with f := Expected.rotFlags res, cycles := some 4 }) ∧
    (¬ s.Readable hl → exec (Instr.rotMemHl op) s = .next (s.busFault hl .read)) ∧
    (s.Readable hl → ¬ (s.didRead hl).Writable hl → exec (Instr.rotMemHl op) s = .next ((s.didRead hl).busFault hl .write))

/-- BIT b,r and BIT b,(HL): Z is the complement of the tested bit, N = 0, H = 1, C unchanged, no register or memory written
(45_bit.md R210, R211).
Spec's own choices: D4, D5, D28. -/
def Obligations.BitTest : Prop :=
  ∀ (s : State) (b : Fin 8) (r : Reg8), let hl : Word := s.h ++ s.l
    let flags (v : Byte) : Flags := { z := !v.getLsbD b.val, n := false, h := true, c := s.f.c }
    decode [0xCB#8, 0b01#2 ++ BitVec.ofFin (w := 3) b ++ r.code] = .ok (Instr.bitR b r, []) ∧
    exec (Instr.bitR b r) s = .next { s with f := flags (s.getR8 r), cycles := some 2 } ∧
    decode [0xCB#8, 0b01#2 ++ BitVec.ofFin (w := 3) b ++ 0b110#3] = .ok (Instr.bitMemHl b, []) ∧
    (s.Readable hl → exec (Instr.bitMemHl b) s =
      .next { s.didRead hl with f := flags (s.readValue hl), cycles := some 3 }) ∧
    (¬ s.Readable hl → exec (Instr.bitMemHl b) s = .next (s.busFault hl .read))

/-- RES and SET on a register and on the byte at HL: one bit cleared or set, no flag; the write to memory happens in every
case (45_bit.md R212, R213, R214, R215).
Spec's own choices: D4, D5, D28. -/
def Obligations.BitResetAndSet : Prop :=
  ∀ (s : State) (b : Fin 8) (r : Reg8) (set : Bool), let hl : Word := s.h ++ s.l
    let x : BitVec 2 := if set then 0b11 else 0b10
    let onR := if set then Instr.setR b r else Instr.resR b r
    let onMem := if set then Instr.setMemHl b else Instr.resMemHl b
    let put (v : Byte) : Byte := if set then v ||| (1#8 <<< b.val) else v &&& ~~~(1#8 <<< b.val)
    decode [0xCB#8, x ++ BitVec.ofFin (w := 3) b ++ r.code] = .ok (onR, []) ∧
    exec onR s = .next ((s.setR8 r (put (s.getR8 r))).returns 2) ∧
    decode [0xCB#8, x ++ BitVec.ofFin (w := 3) b ++ 0b110#3] = .ok (onMem, []) ∧
    (s.Readable hl → (s.didRead hl).Writable hl → exec onMem s =
      .next (((s.didRead hl).didWrite hl (put (s.readValue hl))).returns 4)) ∧
    (¬ s.Readable hl → exec onMem s = .next (s.busFault hl .read)) ∧
    (s.Readable hl → ¬ (s.didRead hl).Writable hl → exec onMem s = .next ((s.didRead hl).busFault hl .write))

/-! ### Control transfer and the stack -/

/-- JP a16, JP HL, JR e8 and the conditional JP and JR: PC, the larger count when taken, the smaller and no other effect
when not (46_control.md R221, R222, R223, R224, R225).
Spec's own choices: D4, D5, D21, G13. -/
def Obligations.Jumps : Prop :=
  ∀ (s : State) (cc : Cond) (lo hi e : Byte), let addr : Word := hi ++ lo
    let taken := match cc with | .nz => !s.f.z | .z => s.f.z | .nc => !s.f.c | .c => s.f.c
    let rel := s.pc + e.signExtend 16
    decode [0xC3#8, lo, hi] = .ok (.jpA16 addr, []) ∧
    exec (.jpA16 addr) s = .next { s with pc := addr, cycles := some 4 } ∧
    decode [0xE9#8] = .ok (.jpHl, []) ∧
    exec .jpHl s = .next { s with pc := s.h ++ s.l, cycles := some 1 } ∧
    decode [0x18#8, e] = .ok (.jrE8 e, []) ∧
    exec (.jrE8 e) s = .next { s with pc := rel, cycles := some 3 } ∧
    decode [0b110#3 ++ cc.code ++ 0b010#3, lo, hi] = .ok (Instr.jpCcA16 cc addr, []) ∧
    exec (Instr.jpCcA16 cc addr) s =
      .next (if taken then { s with pc := addr, cycles := some 4 } else { s with cycles := some 3 }) ∧
    decode [0b001#3 ++ cc.code ++ 0b000#3, e] = .ok (Instr.jrCcE8 cc e, []) ∧
    exec (Instr.jrCcE8 cc e) s =
      .next (if taken then { s with pc := rel, cycles := some 3 } else { s with cycles := some 2 })

/-- CALL, the conditional CALL and RST: the address after the instruction pushed, high byte first, then PC at the target; a
CALL not taken makes no stack access; a rejected stack write keeps what was done before it (46_control.md R226, R227,
R231).
Spec's own choices: D4, D5, D28, G9. -/
def Obligations.CallsAndRestarts : Prop :=
  ∀ (s : State) (cc : Cond) (lo hi : Byte) (y : Fin 8), let addr : Word := hi ++ lo
    let taken := match cc with | .nz => !s.f.z | .z => s.f.z | .nc => !s.f.c | .c => s.f.c
    decode [0xCD#8, lo, hi] = .ok (.callA16 addr, []) ∧
    decode [0b110#3 ++ cc.code ++ 0b100#3, lo, hi] = .ok (Instr.callCcA16 cc addr, []) ∧
    decode [0b11#2 ++ BitVec.ofFin (w := 3) y ++ 0b111#3] = .ok (Instr.rst y, []) ∧
    (s.CanPush s.pc →
      exec (.callA16 addr) s = .next { s.pushed s.pc with pc := addr, cycles := some 6 } ∧
      exec (Instr.rst y) s = .next { s.pushed s.pc with pc := BitVec.ofNat 16 (y.val * 8), cycles := some 4 }) ∧
    (¬ s.CanPush s.pc →
      exec (.callA16 addr) s = .next (s.pushFault s.pc) ∧ exec (Instr.rst y) s = .next (s.pushFault s.pc)) ∧
    (taken = true → s.CanPush s.pc →
      exec (Instr.callCcA16 cc addr) s = .next { s.pushed s.pc with pc := addr, cycles := some 6 }) ∧
    (taken = true → ¬ s.CanPush s.pc → exec (Instr.callCcA16 cc addr) s = .next (s.pushFault s.pc)) ∧
    (taken = false → exec (Instr.callCcA16 cc addr) s = .next { s with cycles := some 3 })

/-- RET, the conditional RET and RETI: PC from the stack, SP by two; RETI also sets IME at once and leaves eiDelay; a RET
not taken makes no stack access; a rejected read sets neither PC nor IME (46_control.md R228, R229, R230).
Spec's own choices: D4, D5, D13, D28. -/
def Obligations.Returns : Prop :=
  ∀ (s : State) (cc : Cond),
    let taken := match cc with | .nz => !s.f.z | .z => s.f.z | .nc => !s.f.c | .c => s.f.c
    decode [0xC9#8] = .ok (.ret, []) ∧ decode [0xD9#8] = .ok (.reti, []) ∧
    decode [0b110#3 ++ cc.code ++ 0b000#3] = .ok (Instr.retCc cc, []) ∧
    (s.CanPop →
      exec .ret s = .next { s.popped with pc := s.topWord, cycles := some 4 } ∧
      exec .reti s = .next { s.popped with pc := s.topWord, ime := true, cycles := some 4 }) ∧
    (¬ s.CanPop → exec .ret s = .next s.popFault ∧ exec .reti s = .next s.popFault) ∧
    (taken = true → s.CanPop → exec (Instr.retCc cc) s = .next { s.popped with pc := s.topWord, cycles := some 5 }) ∧
    (taken = true → ¬ s.CanPop → exec (Instr.retCc cc) s = .next s.popFault) ∧
    (taken = false → exec (Instr.retCc cc) s = .next { s with cycles := some 2 })

/-- PUSH rr and POP rr, AF included: PUSH AF stores F with a zero low nibble, POP AF sets the four flags from bits 7 to 4 of
the low byte (47_stack.md R240, R241, R242).
Spec's own choices: D4, D5, D28. -/
def Obligations.PushAndPopPairs : Prop :=
  ∀ (s : State) (rr : Reg16S),
    decode [0b11#2 ++ rr.code ++ 0b0101#4] = .ok (Instr.pushRr rr, []) ∧
    decode [0b11#2 ++ rr.code ++ 0b0001#4] = .ok (Instr.popRr rr, []) ∧
    (s.CanPush (s.getR16S rr) → exec (Instr.pushRr rr) s = .next ((s.pushed (s.getR16S rr)).returns 4)) ∧
    (¬ s.CanPush (s.getR16S rr) → exec (Instr.pushRr rr) s = .next (s.pushFault (s.getR16S rr))) ∧
    (s.CanPop → exec (Instr.popRr rr) s = .next ((s.popped.setR16S rr s.topWord).returns 3)) ∧
    (¬ s.CanPop → exec (Instr.popRr rr) s = .next s.popFault)

/-! ### Miscellaneous -/

/-- NOP, CPL, SCF and CCF (48_misc.md R250, R252, R253, R254).
Spec's own choices: D4, D5. -/
def Obligations.NopAndFlagInstructions : Prop :=
  ∀ s : State,
    decode [0x00#8] = .ok (.nop, []) ∧ exec .nop s = .next { s with cycles := some 1 } ∧
    decode [0x2F#8] = .ok (.cpl, []) ∧
    exec .cpl s = .next { s with
      a := 0xFF#8 - s.a, f := { z := s.f.z, n := true, h := true, c := s.f.c }, cycles := some 1 } ∧
    decode [0x37#8] = .ok (.scf, []) ∧
    exec .scf s = .next { s with f := { z := s.f.z, n := false, h := false, c := true }, cycles := some 1 } ∧
    decode [0x3F#8] = .ok (.ccf, []) ∧
    exec .ccf s = .next { s with f := { z := s.f.z, n := false, h := false, c := !s.f.c }, cycles := some 1 }

/-- DAA: one correction of 0x60 and 0x06, each by its condition on A and the flags as they were; Z, H = 0, C set by the
addition case only, N unchanged (48_misc.md R251).
Spec's own choices: D4, D5, D29. -/
def Obligations.DecimalAdjust : Prop :=
  ∀ s : State, let k := Expected.daaCorrection s.a s.f
    let r : Byte := if s.f.n then s.a - BitVec.ofNat 8 k else s.a + BitVec.ofNat 8 k
    decode [0x27#8] = .ok (.daa, []) ∧
    exec .daa s = .next { s with
      a := r
      f := { z := decide (r = 0#8), n := s.f.n, h := false
             c := s.f.c || (!s.f.n && decide (s.a.toNat > 0x99)) }
      cycles := some 1 }

/-- DAA after ADD or SUB keeps A two packed decimal digits: the decimal sum or difference modulo 100, with C the decimal
carry or borrow (00_scope.md glossary; 48_misc.md R251, 42_alu8.md R141, R147).
Spec's own choices: D4. -/
def Obligations.DecimalArithmetic : Prop :=
  ∀ (s : State) (x y : Nat), x < 100 → y < 100 → s.a = Expected.bcd x → s.b = Expected.bcd y →
    (∃ t u, exec .addAB s = .next t ∧ exec .daa t = .next u ∧
      u.a = Expected.bcd ((x + y) % 100) ∧ u.f.c = decide (100 ≤ x + y)) ∧
    (∃ t u, exec .subB s = .next t ∧ exec .daa t = .next u ∧
      u.a = Expected.bcd ((x + 100 - y) % 100) ∧ u.f.c = decide (x < y))

/-- HALT enters Halted with PC at the next byte; DI clears IME and leaves eiDelay; EI sets both (48_misc.md R255, R257,
R258).
Spec's own choices: D4, D5, D13. -/
def Obligations.HaltAndInterruptEnable : Prop :=
  ∀ s : State,
    decode [0x76#8] = .ok (.halt, []) ∧ exec .halt s = .next { s with run := .halted, cycles := some 1 } ∧
    decode [0xF3#8] = .ok (.di, []) ∧ exec .di s = .next { s with ime := false, cycles := some 1 } ∧
    decode [0xFB#8] = .ok (.ei, []) ∧
    exec .ei s = .next { s with ime := true, eiDelay := true, cycles := some 1 }

/-- STOP by STOP_MODE: under Fault the fault Unimplemented with the opcode's own address, under Skip one more byte fetched
and nothing else changed (48_misc.md R256, 60_exceptions.md R274).
Spec's own choices: D4, D5, D9, G11. -/
def Obligations.StopByMode : Prop :=
  ∀ s : State,
    (∀ n : Byte, decode [0x10#8, n] = .ok (.stop, [])) ∧
    (s.cfg.stopMode = .fault → exec .stop s =
      .next { s with run := .faulted (.unimplemented 0x10#8 (s.pc - 1)), cycles := none }) ∧
    (s.cfg.stopMode = .skip → s.Readable s.pc → exec .stop s =
      .next { s.didRead s.pc with pc := s.pc + 1, cycles := some 1 }) ∧
    (s.cfg.stopMode = .skip → ¬ s.Readable s.pc → exec .stop s = .next (s.busFault s.pc .read))

/-- PREFIX CB dispatches through the CB table: its meaning on a CB byte, by the byte's fields, is the meaning of that cell of
the grid, the prefix's own 1 included in the count, and the decoder gives that cell (48_misc.md R259).
Spec's own choices: D4, D31. -/
def Obligations.PrefixDispatchesCbTable : Prop :=
  ∀ (s : State) (cb b2 : Byte),
    decodePrimary 0xCB#8 cb b2 = .prefixCb cb ∧ decode [0xCB#8, cb] = .ok (decodeCb cb, []) ∧
    exec (.prefixCb cb) s = exec (decodeCb cb) s ∧
    ∃ t, exec (.prefixCb cb) s = .next t ∧ ∀ n, t.cycles = some n → 2 ≤ n ∧ n ≤ 4

/-! ### Interrupts and the run loop -/

/-- A step of a Running core runs the decoded instruction: its bytes are fetched in order, PC is moved past them, `exec`
gives the result, and the Timer call and the interrupt check follow an instruction that returned a count
(30_encoding.md R78, 60_exceptions.md R281; the fetch of every operand byte before `exec` is log entry 8).
Spec's own choices: D11. -/
def Obligations.StepRunsDecodedInstruction : Prop :=
  ∀ (s : State) (i : Instr) (rest : List Byte),
    let n := fetchedBytes (s.fetchedByte 0)
    s.run = .running →
    decode [s.fetchedByte 0, s.fetchedByte 1, s.fetchedByte 2] = .ok (i, rest) →
    (∀ k, k < n → s.CanFetch k) →
    step s = match exec i (s.fetched n) with
      | .next t => match t.cycles with
        | some m => settle (afterInstruction m) t
        | none => .next t
      | .fault f => .fault f
      | .refused r => .refused r

/-- What follows an instruction that reported `m`: `Timer.inc(m)`; no check after HALT; a set eiDelay is cleared and nothing
scanned; with IME false no bus call; else IE, then IF is read and the first serviceable source is serviced, a rejected read
faulting the core (60_exceptions.md R281, R282; 20_memory.md R59). That the next device request sets its IF bits at the
Timer call (`timed`), on the bus's own side, is the model's choice (log entries 10, 16).
Spec's own choices: D11, D19, D28. -/
def Obligations.InterruptCheckCases : Prop :=
  ∀ (s : State) (m : Nat), let u := s.timed m
    let ie := u.readValue u.cfg.ieAddr
    let w := u.didRead u.cfg.ieAddr
    let iflag := w.readValue u.cfg.ifAddr
    let v := w.didRead u.cfg.ifAddr
    (s.run = .halted → settle (afterInstruction m) s = .next u) ∧
    (s.run = .running → s.eiDelay = true → settle (afterInstruction m) s = .next { u with eiDelay := false }) ∧
    (s.run = .running → s.eiDelay = false → s.ime = false → settle (afterInstruction m) s = .next u) ∧
    (s.run = .running → s.eiDelay = false → s.ime = true →
      (u.Readable u.cfg.ieAddr → w.Readable u.cfg.ifAddr →
        settle (afterInstruction m) s = match firstServiceable ie iflag with
          | some k => settle (service k iflag) v
          | none => .next v) ∧
      (¬ u.Readable u.cfg.ieAddr →
        settle (afterInstruction m) s = .next (u.rejected.faultedBy (.busError s.cfg.ieAddr .read))) ∧
      (u.Readable u.cfg.ieAddr → ¬ w.Readable u.cfg.ifAddr →
        settle (afterInstruction m) s = .next (w.rejected.faultedBy (.busError s.cfg.ifAddr .read))))

/-- The serviceable source chosen is the one with the lowest bit number among bits 0 to 4 set in both IE and IF; the sources
have bits 0 to 4 and their fixed addresses in that order (60_exceptions.md R276, R279, R283).
Spec's own choices: D6. -/
def Obligations.ServicePriority : Prop :=
  ∀ ie iflag : Byte,
    (∀ k, firstServiceable ie iflag = some k ↔
      (ie &&& iflag).getLsbD (sourceBit k).val = true ∧
      ∀ j : Nat, j < (sourceBit k).val → (ie &&& iflag).getLsbD j = false) ∧
    (firstServiceable ie iflag = none ↔ ie &&& iflag &&& 0x1F#8 = 0#8) ∧
    ∀ k, sourceVector k = BitVec.ofNat 16 (0x40 + 8 * (sourceBit k).val)

/-- The interrupt entry: IME cleared, the source's IF bit cleared in the byte read, PC pushed high byte first, PC at the
service address, Running, five more cycles to the Timer; nothing else of the core is saved or changed; a rejected write
faults the core with what was done before it (60_exceptions.md R284). That the next device request sets its IF bits at the
Timer call (`timed`), on the bus's own side, is the model's choice (log entries 10, 16).
Spec's own choices: D6, D20, D24, D28. -/
def Obligations.InterruptEntry : Prop :=
  ∀ (s : State) (k : Source) (iflag : Byte),
    let masked : State := { s with ime := false }
    let cleared := masked.didWrite s.cfg.ifAddr (iflag &&& ~~~(1#8 <<< (sourceBit k).val))
    (s.Writable s.cfg.ifAddr → cleared.CanPush s.pc →
      settle (service k iflag) s =
        .next (({ cleared.pushed s.pc with pc := sourceVector k, run := .running } : State).timed 5)) ∧
    (¬ s.Writable s.cfg.ifAddr →
      settle (service k iflag) s = .next (masked.rejected.faultedBy (.busError s.cfg.ifAddr .write))) ∧
    (s.Writable s.cfg.ifAddr → ¬ cleared.CanPush s.pc →
      settle (service k iflag) s = .next { cleared.pushFault s.pc with cycles := s.cycles }) ∧
    sourceVector .vblank = 0x0040#16 ∧ sourceVector .lcd = 0x0048#16 ∧ sourceVector .timer = 0x0050#16 ∧
    sourceVector .serial = 0x0058#16 ∧ sourceVector .joypad = 0x0060#16

/-- A Halted iteration: one m-cycle to the Timer, IE then IF read; Halted stays Halted when `IE & IF & WAKE_MASK` is zero;
otherwise the core wakes whatever IME is, and with IME services the first serviceable source (60_exceptions.md R285). That
the next device request sets its IF bits at the Timer call (`timed`), on the bus's own side, is the model's choice (log
entries 10, 16).
Spec's own choices: D8, D19, D28. -/
def Obligations.HaltedIteration : Prop :=
  ∀ s : State, s.run = .halted →
    let u := ({ s with cycles := none, timerCalls := [], busCalls := [] } : State).timed 1
    let ie := u.readValue u.cfg.ieAddr
    let w := u.didRead u.cfg.ieAddr
    let iflag := w.readValue u.cfg.ifAddr
    let v := w.didRead u.cfg.ifAddr
    let mask : Byte := if s.cfg.wakeMask = .sources then 0x1F else 0xFF
    (u.Readable u.cfg.ieAddr → w.Readable u.cfg.ifAddr →
      (ie &&& iflag &&& mask = 0#8 → step s = .next v) ∧
      (ie &&& iflag &&& mask ≠ 0#8 → s.ime = false → step s = .next { v with run := .running }) ∧
      (ie &&& iflag &&& mask ≠ 0#8 → s.ime = true →
        step s = match firstServiceable ie iflag with
          | some k => settle (service k iflag) { v with run := .running }
          | none => .next { v with run := .running })) ∧
    (¬ u.Readable u.cfg.ieAddr → step s = .next (u.rejected.faultedBy (.busError s.cfg.ieAddr .read))) ∧
    (u.Readable u.cfg.ieAddr → ¬ w.Readable u.cfg.ifAddr →
      step s = .next (w.rejected.faultedBy (.busError s.cfg.ifAddr .read)))

/-- EI takes effect one instruction late: whatever is pending and enabled, the iteration that executes EI services nothing,
clears eiDelay again and leaves IME set, so the next instruction is at PC + 1 (48_misc.md R258, 60_exceptions.md R282,
70_reset_and_hazards.md R303). That the next device request sets its IF bits at the Timer call (`timed`), on the bus's own
side, is the model's choice (log entries 10, 16).
Spec's own choices: D4, D5. -/
def Obligations.EiDelaysService : Prop :=
  ∀ s : State, s.run = .running → s.Readable s.pc → s.readValue s.pc = 0xFB#8 →
    step s = .next (({ s.didRead s.pc with
      pc := s.pc + 1, ime := true, eiDelay := true, cycles := some 1, timerCalls := []
      busCalls := [⟨.read, s.pc, 0xFB#8⟩] } : State).timed 1 |> fun t => { t with eiDelay := false })

/-- Faulted is terminal: a step answers the fault itself and the host's `step()` is refused, as in Halted; in Running it is
Execute() alone: the bytes are fetched in order and the decoded instruction is run from there, or the rejected fetch faults
the core; there is no Timer call, no device request and no interrupt check, so an eiDelay that EI sets stays set (10_state.md
R31, 60_exceptions.md R270, R289; the fetch of every operand byte before `exec` is log entry 8).
Spec's own choices: D14, D18, D33. -/
def Obligations.FaultedIsTerminal : Prop :=
  ∀ s : State, let n := fetchedBytes (s.fetchedByte 0)
    (∀ f, s.run = .faulted f → step s = .fault f) ∧
    (s.run ≠ .running → hostStep s = .refused .stepNotRunning) ∧
    (s.run = .running → ∃ t, hostStep s = .next t ∧ t.timerCalls = [] ∧ t.requests = s.requests) ∧
    (∀ i rest, s.run = .running →
      decode [s.fetchedByte 0, s.fetchedByte 1, s.fetchedByte 2] = .ok (i, rest) →
      (∀ k, k < n → s.CanFetch k) → hostStep s = exec i (s.fetched n)) ∧
    (∀ k, s.run = .running → k < n → (∀ j, j < k → s.CanFetch j) → ¬ s.CanFetch k →
      hostStep s = .next ((s.fetched k).busFault (s.pc + BitVec.ofNat 16 k) .read)) ∧
    (s.run = .running → s.Readable s.pc → s.readValue s.pc = 0xFB#8 →
      ∃ t, hostStep s = .next t ∧ t.ime = true ∧ t.eiDelay = true ∧ t.pc = s.pc + 1)

/-! ### Whole-machine statements -/

/-- Every step keeps the invariant of the state, from every state that meets it (20_memory.md R50, R64; 92_eei_decisions.md
D7). -/
def Obligations.StepKeepsInvariant : Prop :=
  ∀ s s' : State, s.Inv → step s = .next s' → s'.Inv

/-- Nothing stops a core that is not Faulted: every instruction and every step gives a next state, never a refusal
(10_state.md R31, 30_encoding.md R82).
Spec's own choices: D18. -/
def Obligations.EveryStepCompletes : Prop :=
  (∀ (i : Instr) (s : State), ∃ t, exec i s = .next t) ∧
  ∀ s : State, s.run.operational = true → ∃ t, step s = .next t

/-- On a bus that never fails a step enters Faulted only by an illegal opcode or by STOP under STOP_MODE = Fault, at the
address PC had, and the bus goes on never failing (60_exceptions.md R270 to R274, 20_memory.md R64).
Spec's own choices: D1, D4, D9. -/
def Obligations.FaultsOnReferenceMemory : Prop :=
  ∀ s s' : State, s.BusNeverFails → s.run.operational = true → step s = .next s' →
    s'.BusNeverFails ∧
    ∀ f, s'.run = .faulted f → s.run = .running ∧
      ((s.readValue s.pc ∈ illegalOpcodes ∧ f = .illegalOpcode (s.readValue s.pc) s.pc) ∨
        (s.readValue s.pc = 0x10#8 ∧ s.cfg.stopMode = .fault ∧ f = .unimplemented 0x10#8 s.pc))

/-- eiDelay never outlives an iteration of the run loop (10_state.md R30, 60_exceptions.md R282). -/
def Obligations.EiDelayEndsWithIteration : Prop :=
  ∀ s s' : State, s.eiDelay = false → step s = .next s' → s'.eiDelay = false

/-- Memory frame of every instruction, on every bus: it makes no write call outside the addresses the instruction stores to,
and a byte outside them, which the platform's own coming replies leave alone, reads as before (20_memory.md R58; the store
rules of 40_loads.md to 47_stack.md). That a platform's own changes are listed in its replies is the model's choice (log
entry 17). Spec's own choices: D28. -/
def Obligations.MemoryFrame : Prop :=
  ∀ (i : Instr) (s s' : State), exec i s = .next s' →
    (∃ calls, s'.busCalls = s.busCalls ++ calls ∧ ∀ c ∈ calls, c.dir = .write → c.addr ∈ storedAddrs i s) ∧
    ∀ addr : Word, addr ∉ storedAddrs i s → addr ∉ s.platformChanges → s'.byteAt addr = s.byteAt addr

/-- Register frame of every instruction: an 8-bit register that is no destination, SP outside the instructions that write
it, and PC outside the control transfers and STOP are unchanged (10_state.md R27, R28, R34).
Spec's own choices: D9, D28. -/
def Obligations.RegisterFrame : Prop :=
  ∀ (i : Instr) (s s' : State), exec i s = .next s' →
    (∀ r : Reg8, r ∉ destR8 i → s'.getR8 r = s.getR8 r) ∧
    (writesSp i = false → s'.sp = s.sp) ∧
    (writesPc i = false → s'.pc = s.pc)

/-- Flag frame of every instruction: each flag outside the flags the instruction writes is unchanged (10_state.md R26).
Spec's own choices: D10. -/
def Obligations.FlagFrame : Prop :=
  ∀ (i : Instr) (s s' : State), exec i s = .next s' →
    let w := flagsWritten i s.cfg
    (w.z = false → s'.f.z = s.f.z) ∧ (w.n = false → s'.f.n = s.f.n) ∧
    (w.h = false → s'.f.h = s.f.h) ∧ (w.c = false → s'.f.c = s.f.c)

/-- Control frame of every instruction: only EI, DI and RETI write IME, only EI writes eiDelay, only HALT enters Halted, any
other change of the run state is a fault that reports no count; no Timer call is made; the bus calls made so far are kept
(10_state.md R29, R30, R31; 60_exceptions.md R288). The model's own fields: the parameters, the rejected sites and the
device requests are unchanged, and the bus's replies are used up from the front (log entries 3, 10, 14, 17).
Spec's own choices: D18. -/
def Obligations.ControlFrame : Prop :=
  ∀ (i : Instr) (s s' : State), exec i s = .next s' →
    (i ≠ .ei → i ≠ .di → i ≠ .reti → s'.ime = s.ime) ∧
    (i ≠ .ei → s'.eiDelay = s.eiDelay) ∧
    (s'.run = s.run ∨ (i = .halt ∧ s'.run = .halted) ∨ (s'.cycles = none ∧ ∃ f, s'.run = .faulted f)) ∧
    s'.rejects = s.rejects ∧ s'.requests = s.requests ∧ s'.cfg = s.cfg ∧ s'.timerCalls = s.timerCalls ∧
    (∃ used, s.replies = used ++ s'.replies) ∧
    ∃ calls, s'.busCalls = s.busCalls ++ calls
end

