-- ==== Sys2Proof/Laws/Decode.lean ====
section
/-! SUPPORT. The byte and word views, and what `decode` answers by the length its first byte fixes. -/

namespace Sys2Proof

@[simp] theorem hiByte_append (hi lo : Byte) : hiByte (hi ++ lo) = hi := by
  refine BitVec.eq_of_toNat_eq ?_
  simp only [hiByte, BitVec.extractLsb'_toNat, BitVec.toNat_append, Nat.shiftLeft_eq, Nat.shiftRight_eq_div_pow]
  have := lo.isLt; have := hi.isLt
  rw [Nat.mul_comm, ← Nat.two_pow_add_eq_or_of_lt lo.isLt]; omega

@[simp] theorem loByte_append (hi lo : Byte) : loByte (hi ++ lo) = lo := by
  refine BitVec.eq_of_toNat_eq ?_
  simp only [loByte, BitVec.extractLsb'_toNat, BitVec.toNat_append, Nat.shiftLeft_eq, Nat.shiftRight_eq_div_pow]
  have := lo.isLt
  rw [Nat.mul_comm, ← Nat.two_pow_add_eq_or_of_lt lo.isLt]; omega

/-- A word is the concatenation of its halves (10_state.md R22, R23). -/
@[simp] theorem hiByte_append_loByte (v : Word) : hiByte v ++ loByte v = v := by
  refine BitVec.eq_of_toNat_eq ?_
  have h := v.isLt
  rw [BitVec.toNat_append, Nat.shiftLeft_eq, Nat.mul_comm, ← Nat.two_pow_add_eq_or_of_lt (loByte v).isLt]
  simp only [hiByte, loByte, BitVec.extractLsb'_toNat, Nat.shiftRight_eq_div_pow]; omega

theorem mkWord_eq (hi lo : Byte) : mkWord hi lo = hi ++ lo := rfl

/-- An instruction has one, two or three bytes (30_encoding.md R70). -/
theorem instrLength_cases (op : Byte) : instrLength op = 1 ∨ instrLength op = 2 ∨ instrLength op = 3 := by
  unfold instrLength
  split
  · exact .inr (.inl rfl)
  · split
    · exact .inr (.inr rfl)
    · exact .inl rfl

/-- What `decode` answers on a non-empty sequence, by the length its first byte fixes (30_encoding.md R82). -/
theorem decode_cons (op : Byte) (rest : List Byte) :
    decode (op :: rest) = match instrLength op, rest with
      | 2, b1 :: tail => .ok (decodeBytes op b1 0#8, tail)
      | 3, b1 :: b2 :: tail => .ok (decodeBytes op b1 b2, tail)
      | 1, tail => .ok (decodeBytes op 0#8 0#8, tail)
      | _, _ => .error (.missingOperand op) := rfl

theorem decode_one {op : Byte} (h : instrLength op = 1) (rest : List Byte) :
    decode (op :: rest) = .ok (decodeBytes op 0#8 0#8, rest) := by rw [decode_cons, h]; rfl

theorem decode_two {op : Byte} (h : instrLength op = 2) (b1 : Byte) (rest : List Byte) :
    decode (op :: b1 :: rest) = .ok (decodeBytes op b1 0#8, rest) := by rw [decode_cons, h]; rfl

theorem decode_three {op : Byte} (h : instrLength op = 3) (b1 b2 : Byte) (rest : List Byte) :
    decode (op :: b1 :: b2 :: rest) = .ok (decodeBytes op b1 b2, rest) := by rw [decode_cons, h]; rfl

end Sys2Proof
end

