-- ==== Sys2Proof/Laws/Exec.lean ====
section
/-! SUPPORT. The dispatch of each family of the opcode map: which operation `exec` runs, in terms of the operand fields. One
lemma for each family covers all its arms. -/

namespace Sys2Proof.Machine

@[simp] theorem exec_ldRR (dst src : Reg8) (s : State) :
    exec (Instr.ldRR dst src) s = handler (ldRR dst src) s := by
  cases dst <;> cases src <;> rfl

@[simp] theorem exec_ldRMemHl (r : Reg8) (s : State) :
    exec (Instr.ldRMemHl r) s = handler (ldRMemHl r) s := by
  cases r <;> rfl

@[simp] theorem exec_ldMemHlR (r : Reg8) (s : State) :
    exec (Instr.ldMemHlR r) s = handler (ldMemHlR r) s := by
  cases r <;> rfl

@[simp] theorem exec_ldRD8 (r : Reg8) (n : Byte) (s : State) :
    exec (Instr.ldRD8 r n) s = handler (ldRD8 r n) s := by
  cases r <;> rfl

@[simp] theorem exec_ldRrD16 (rr : Reg16) (nn : Word) (s : State) :
    exec (Instr.ldRrD16 rr nn) s = handler (ldRrD16 rr nn) s := by
  cases rr <;> rfl

@[simp] theorem exec_ldAMemHlStep (up : Bool) (s : State) :
    exec (Instr.ldAMemHlStep up) s = handler (ldAMemHlStep (if up then 1#16 else -1#16)) s := by
  cases up <;> rfl

@[simp] theorem exec_ldMemHlStepA (up : Bool) (s : State) :
    exec (Instr.ldMemHlStepA up) s = handler (ldMemHlStepA (if up then 1#16 else -1#16)) s := by
  cases up <;> rfl

@[simp] theorem exec_incR (r : Reg8) (s : State) :
    exec (Instr.incR r) s = handler (incR r) s := by
  cases r <;> rfl

@[simp] theorem exec_incRr (rr : Reg16) (s : State) :
    exec (Instr.incRr rr) s = handler (incRr rr) s := by
  cases rr <;> rfl

@[simp] theorem exec_decR (r : Reg8) (s : State) :
    exec (Instr.decR r) s = handler (decR r) s := by
  cases r <;> rfl

@[simp] theorem exec_decRr (rr : Reg16) (s : State) :
    exec (Instr.decRr rr) s = handler (decRr rr) s := by
  cases rr <;> rfl

@[simp] theorem exec_aluR (op : AluOp) (r : Reg8) (s : State) :
    exec (Instr.aluR op r) s = handler (aluR op r) s := by
  cases op <;> cases r <;> rfl

@[simp] theorem exec_aluMemHl (op : AluOp) (s : State) :
    exec (Instr.aluMemHl op) s = handler (aluMemHl op) s := by
  cases op <;> rfl

@[simp] theorem exec_aluD8 (op : AluOp) (n : Byte) (s : State) :
    exec (Instr.aluD8 op n) s = handler (aluD8 op n) s := by
  cases op <;> rfl

@[simp] theorem exec_addHlRr (rr : Reg16) (s : State) :
    exec (Instr.addHlRr rr) s = handler (addHlRr rr) s := by
  cases rr <;> rfl

@[simp] theorem exec_rotR (op : RotOp) (r : Reg8) (s : State) :
    exec (Instr.rotR op r) s = handler (prefixed (rotR op r)) s := by
  cases op <;> cases r <;> rfl

@[simp] theorem exec_rotMemHl (op : RotOp) (s : State) :
    exec (Instr.rotMemHl op) s = handler (prefixed (rotMemHl op)) s := by
  cases op <;> rfl

@[simp] theorem exec_bitR (i : Fin 8) (r : Reg8) (s : State) :
    exec (Instr.bitR i r) s = handler (prefixed (bitR i r)) s := by
  cases r <;> fin_cases i <;> rfl

@[simp] theorem exec_bitMemHl (i : Fin 8) (s : State) :
    exec (Instr.bitMemHl i) s = handler (prefixed (bitMemHl i)) s := by
  fin_cases i <;> rfl

@[simp] theorem exec_resR (i : Fin 8) (r : Reg8) (s : State) :
    exec (Instr.resR i r) s = handler (prefixed (resR i r)) s := by
  cases r <;> fin_cases i <;> rfl

@[simp] theorem exec_resMemHl (i : Fin 8) (s : State) :
    exec (Instr.resMemHl i) s = handler (prefixed (resMemHl i)) s := by
  fin_cases i <;> rfl

@[simp] theorem exec_setR (i : Fin 8) (r : Reg8) (s : State) :
    exec (Instr.setR i r) s = handler (prefixed (setR i r)) s := by
  cases r <;> fin_cases i <;> rfl

@[simp] theorem exec_setMemHl (i : Fin 8) (s : State) :
    exec (Instr.setMemHl i) s = handler (prefixed (setMemHl i)) s := by
  fin_cases i <;> rfl

@[simp] theorem exec_jpCcA16 (cc : Cond) (addr : Word) (s : State) :
    exec (Instr.jpCcA16 cc addr) s = handler (jpCcA16 cc addr) s := by
  cases cc <;> rfl

@[simp] theorem exec_jrCcE8 (cc : Cond) (e : Byte) (s : State) :
    exec (Instr.jrCcE8 cc e) s = handler (jrCcE8 cc e) s := by
  cases cc <;> rfl

@[simp] theorem exec_callCcA16 (cc : Cond) (addr : Word) (s : State) :
    exec (Instr.callCcA16 cc addr) s = handler (callCcA16 cc addr) s := by
  cases cc <;> rfl

@[simp] theorem exec_retCc (cc : Cond) (s : State) :
    exec (Instr.retCc cc) s = handler (retCc cc) s := by
  cases cc <;> rfl

@[simp] theorem exec_rst (y : Fin 8) (s : State) :
    exec (Instr.rst y) s = handler (rst y) s := by
  fin_cases y <;> rfl

@[simp] theorem exec_pushRr (rr : Reg16S) (s : State) :
    exec (Instr.pushRr rr) s = handler (pushRr rr) s := by
  cases rr <;> rfl

@[simp] theorem exec_popRr (rr : Reg16S) (s : State) :
    exec (Instr.popRr rr) s = handler (popRr rr) s := by
  cases rr <;> rfl

@[simp] theorem exec_illegal (k : Fin 11) (s : State) :
    exec (Instr.illegal k) s = handler (illegalOpcode (illegalOpcodes.get k)) s := by
  fin_cases k <;> rfl

end Sys2Proof.Machine
end

