-- ==== Sys2Proof/Laws/Families.lean ====
section
/-! SUPPORT. A statement about every instruction follows from one case for each family of the opcode map and one for each
instruction that is no member of a family. -/

namespace Sys2Proof

theorem Instr.byFamily {P : Instr → Prop}
    (ldRR : ∀ (x : Reg8) (y : Reg8), P (Instr.ldRR x y))
    (ldRMemHl : ∀ (x : Reg8), P (Instr.ldRMemHl x))
    (ldMemHlR : ∀ (x : Reg8), P (Instr.ldMemHlR x))
    (ldRD8 : ∀ (x : Reg8) (y : Byte), P (Instr.ldRD8 x y))
    (ldRrD16 : ∀ (x : Reg16) (y : Word), P (Instr.ldRrD16 x y))
    (incR : ∀ (x : Reg8), P (Instr.incR x))
    (incRr : ∀ (x : Reg16), P (Instr.incRr x))
    (decR : ∀ (x : Reg8), P (Instr.decR x))
    (decRr : ∀ (x : Reg16), P (Instr.decRr x))
    (aluR : ∀ (x : AluOp) (y : Reg8), P (Instr.aluR x y))
    (aluMemHl : ∀ (x : AluOp), P (Instr.aluMemHl x))
    (aluD8 : ∀ (x : AluOp) (y : Byte), P (Instr.aluD8 x y))
    (addHlRr : ∀ (x : Reg16), P (Instr.addHlRr x))
    (rotR : ∀ (x : RotOp) (y : Reg8), P (Instr.rotR x y))
    (rotMemHl : ∀ (x : RotOp), P (Instr.rotMemHl x))
    (bitR : ∀ (x : Fin 8) (y : Reg8), P (Instr.bitR x y))
    (bitMemHl : ∀ (x : Fin 8), P (Instr.bitMemHl x))
    (resR : ∀ (x : Fin 8) (y : Reg8), P (Instr.resR x y))
    (resMemHl : ∀ (x : Fin 8), P (Instr.resMemHl x))
    (setR : ∀ (x : Fin 8) (y : Reg8), P (Instr.setR x y))
    (setMemHl : ∀ (x : Fin 8), P (Instr.setMemHl x))
    (jpCcA16 : ∀ (x : Cond) (y : Word), P (Instr.jpCcA16 x y))
    (jrCcE8 : ∀ (x : Cond) (y : Byte), P (Instr.jrCcE8 x y))
    (callCcA16 : ∀ (x : Cond) (y : Word), P (Instr.callCcA16 x y))
    (retCc : ∀ (x : Cond), P (Instr.retCc x))
    (rst : ∀ (x : Fin 8), P (Instr.rst x))
    (pushRr : ∀ (x : Reg16S), P (Instr.pushRr x))
    (popRr : ∀ (x : Reg16S), P (Instr.popRr x))
    (ldAMemHlStep : ∀ (x : Bool), P (Instr.ldAMemHlStep x))
    (ldMemHlStepA : ∀ (x : Bool), P (Instr.ldMemHlStepA x))
    (illegal : ∀ (x : Fin 11), P (Instr.illegal x))
    (nop : P .nop)
    (ldMemBcA : P .ldMemBcA)
    (rlca : P .rlca)
    (ldMemA16Sp : ∀ addr : Word, P (.ldMemA16Sp addr))
    (ldAMemBc : P .ldAMemBc)
    (rrca : P .rrca)
    (stop : P .stop)
    (ldMemDeA : P .ldMemDeA)
    (rla : P .rla)
    (jrE8 : ∀ e : Byte, P (.jrE8 e))
    (ldAMemDe : P .ldAMemDe)
    (rra : P .rra)
    (daa : P .daa)
    (cpl : P .cpl)
    (incMemHl : P .incMemHl)
    (decMemHl : P .decMemHl)
    (ldMemHlD8 : ∀ n : Byte, P (.ldMemHlD8 n))
    (scf : P .scf)
    (ccf : P .ccf)
    (halt : P .halt)
    (jpA16 : ∀ addr : Word, P (.jpA16 addr))
    (ret : P .ret)
    (prefixCb : ∀ cb : Byte, P (.prefixCb cb))
    (callA16 : ∀ addr : Word, P (.callA16 addr))
    (reti : P .reti)
    (ldhMemA8A : ∀ n : Byte, P (.ldhMemA8A n))
    (ldMemCA : P .ldMemCA)
    (addSpE8 : ∀ e : Byte, P (.addSpE8 e))
    (jpHl : P .jpHl)
    (ldMemA16A : ∀ addr : Word, P (.ldMemA16A addr))
    (ldhAMemA8 : ∀ n : Byte, P (.ldhAMemA8 n))
    (ldAMemC : P .ldAMemC)
    (di : P .di)
    (ldHlSpE8 : ∀ e : Byte, P (.ldHlSpE8 e))
    (ldSpHl : P .ldSpHl)
    (ldAMemA16 : ∀ addr : Word, P (.ldAMemA16 addr))
    (ei : P .ei) :
    ∀ i, P i
  | .nop => nop
  | .ldBcD16 nn => ldRrD16 .bc nn
  | .ldMemBcA => ldMemBcA
  | .incBc => incRr .bc
  | .incB => incR .b
  | .decB => decR .b
  | .ldBD8 n => ldRD8 .b n
  | .rlca => rlca
  | .ldMemA16Sp addr => ldMemA16Sp addr
  | .addHlBc => addHlRr .bc
  | .ldAMemBc => ldAMemBc
  | .decBc => decRr .bc
  | .incC => incR .c
  | .decC => decR .c
  | .ldCD8 n => ldRD8 .c n
  | .rrca => rrca
  | .stop => stop
  | .ldDeD16 nn => ldRrD16 .de nn
  | .ldMemDeA => ldMemDeA
  | .incDe => incRr .de
  | .incD => incR .d
  | .decD => decR .d
  | .ldDD8 n => ldRD8 .d n
  | .rla => rla
  | .jrE8 e => jrE8 e
  | .addHlDe => addHlRr .de
  | .ldAMemDe => ldAMemDe
  | .decDe => decRr .de
  | .incE => incR .e
  | .decE => decR .e
  | .ldED8 n => ldRD8 .e n
  | .rra => rra
  | .jrNzE8 e => jrCcE8 .nz e
  | .ldHlD16 nn => ldRrD16 .hl nn
  | .ldMemHlIncA => ldMemHlStepA true
  | .incHl => incRr .hl
  | .incH => incR .h
  | .decH => decR .h
  | .ldHD8 n => ldRD8 .h n
  | .daa => daa
  | .jrZE8 e => jrCcE8 .z e
  | .addHlHl => addHlRr .hl
  | .ldAMemHlInc => ldAMemHlStep true
  | .decHl => decRr .hl
  | .incL => incR .l
  | .decL => decR .l
  | .ldLD8 n => ldRD8 .l n
  | .cpl => cpl
  | .jrNcE8 e => jrCcE8 .nc e
  | .ldSpD16 nn => ldRrD16 .sp nn
  | .ldMemHlDecA => ldMemHlStepA false
  | .incSp => incRr .sp
  | .incMemHl => incMemHl
  | .decMemHl => decMemHl
  | .ldMemHlD8 n => ldMemHlD8 n
  | .scf => scf
  | .jrCE8 e => jrCcE8 .c e
  | .addHlSp => addHlRr .sp
  | .ldAMemHlDec => ldAMemHlStep false
  | .decSp => decRr .sp
  | .incA => incR .a
  | .decA => decR .a
  | .ldAD8 n => ldRD8 .a n
  | .ccf => ccf
  | .ldBB => ldRR .b .b
  | .ldBC => ldRR .b .c
  | .ldBD => ldRR .b .d
  | .ldBE => ldRR .b .e
  | .ldBH => ldRR .b .h
  | .ldBL => ldRR .b .l
  | .ldBMemHl => ldRMemHl .b
  | .ldBA => ldRR .b .a
  | .ldCB => ldRR .c .b
  | .ldCC => ldRR .c .c
  | .ldCD => ldRR .c .d
  | .ldCE => ldRR .c .e
  | .ldCH => ldRR .c .h
  | .ldCL => ldRR .c .l
  | .ldCMemHl => ldRMemHl .c
  | .ldCA => ldRR .c .a
  | .ldDB => ldRR .d .b
  | .ldDC => ldRR .d .c
  | .ldDD => ldRR .d .d
  | .ldDE => ldRR .d .e
  | .ldDH => ldRR .d .h
  | .ldDL => ldRR .d .l
  | .ldDMemHl => ldRMemHl .d
  | .ldDA => ldRR .d .a
  | .ldEB => ldRR .e .b
  | .ldEC => ldRR .e .c
  | .ldED => ldRR .e .d
  | .ldEE => ldRR .e .e
  | .ldEH => ldRR .e .h
  | .ldEL => ldRR .e .l
  | .ldEMemHl => ldRMemHl .e
  | .ldEA => ldRR .e .a
  | .ldHB => ldRR .h .b
  | .ldHC => ldRR .h .c
  | .ldHD => ldRR .h .d
  | .ldHE => ldRR .h .e
  | .ldHH => ldRR .h .h
  | .ldHL => ldRR .h .l
  | .ldHMemHl => ldRMemHl .h
  | .ldHA => ldRR .h .a
  | .ldLB => ldRR .l .b
  | .ldLC => ldRR .l .c
  | .ldLD => ldRR .l .d
  | .ldLE => ldRR .l .e
  | .ldLH => ldRR .l .h
  | .ldLL => ldRR .l .l
  | .ldLMemHl => ldRMemHl .l
  | .ldLA => ldRR .l .a
  | .ldMemHlB => ldMemHlR .b
  | .ldMemHlC => ldMemHlR .c
  | .ldMemHlD => ldMemHlR .d
  | .ldMemHlE => ldMemHlR .e
  | .ldMemHlH => ldMemHlR .h
  | .ldMemHlL => ldMemHlR .l
  | .halt => halt
  | .ldMemHlA => ldMemHlR .a
  | .ldAB => ldRR .a .b
  | .ldAC => ldRR .a .c
  | .ldAD => ldRR .a .d
  | .ldAE => ldRR .a .e
  | .ldAH => ldRR .a .h
  | .ldAL => ldRR .a .l
  | .ldAMemHl => ldRMemHl .a
  | .ldAA => ldRR .a .a
  | .addAB => aluR .add .b
  | .addAC => aluR .add .c
  | .addAD => aluR .add .d
  | .addAE => aluR .add .e
  | .addAH => aluR .add .h
  | .addAL => aluR .add .l
  | .addAMemHl => aluMemHl .add
  | .addAA => aluR .add .a
  | .adcAB => aluR .adc .b
  | .adcAC => aluR .adc .c
  | .adcAD => aluR .adc .d
  | .adcAE => aluR .adc .e
  | .adcAH => aluR .adc .h
  | .adcAL => aluR .adc .l
  | .adcAMemHl => aluMemHl .adc
  | .adcAA => aluR .adc .a
  | .subB => aluR .sub .b
  | .subC => aluR .sub .c
  | .subD => aluR .sub .d
  | .subE => aluR .sub .e
  | .subH => aluR .sub .h
  | .subL => aluR .sub .l
  | .subMemHl => aluMemHl .sub
  | .subA => aluR .sub .a
  | .sbcAB => aluR .sbc .b
  | .sbcAC => aluR .sbc .c
  | .sbcAD => aluR .sbc .d
  | .sbcAE => aluR .sbc .e
  | .sbcAH => aluR .sbc .h
  | .sbcAL => aluR .sbc .l
  | .sbcAMemHl => aluMemHl .sbc
  | .sbcAA => aluR .sbc .a
  | .andB => aluR .and .b
  | .andC => aluR .and .c
  | .andD => aluR .and .d
  | .andE => aluR .and .e
  | .andH => aluR .and .h
  | .andL => aluR .and .l
  | .andMemHl => aluMemHl .and
  | .andA => aluR .and .a
  | .xorB => aluR .xor .b
  | .xorC => aluR .xor .c
  | .xorD => aluR .xor .d
  | .xorE => aluR .xor .e
  | .xorH => aluR .xor .h
  | .xorL => aluR .xor .l
  | .xorMemHl => aluMemHl .xor
  | .xorA => aluR .xor .a
  | .orB => aluR .or .b
  | .orC => aluR .or .c
  | .orD => aluR .or .d
  | .orE => aluR .or .e
  | .orH => aluR .or .h
  | .orL => aluR .or .l
  | .orMemHl => aluMemHl .or
  | .orA => aluR .or .a
  | .cpB => aluR .cp .b
  | .cpC => aluR .cp .c
  | .cpD => aluR .cp .d
  | .cpE => aluR .cp .e
  | .cpH => aluR .cp .h
  | .cpL => aluR .cp .l
  | .cpMemHl => aluMemHl .cp
  | .cpA => aluR .cp .a
  | .retNz => retCc .nz
  | .popBc => popRr .bc
  | .jpNzA16 addr => jpCcA16 .nz addr
  | .jpA16 addr => jpA16 addr
  | .callNzA16 addr => callCcA16 .nz addr
  | .pushBc => pushRr .bc
  | .addAD8 n => aluD8 .add n
  | .rst00H => rst 0
  | .retZ => retCc .z
  | .ret => ret
  | .jpZA16 addr => jpCcA16 .z addr
  | .prefixCb cb => prefixCb cb
  | .callZA16 addr => callCcA16 .z addr
  | .callA16 addr => callA16 addr
  | .adcAD8 n => aluD8 .adc n
  | .rst08H => rst 1
  | .retNc => retCc .nc
  | .popDe => popRr .de
  | .jpNcA16 addr => jpCcA16 .nc addr
  | .illegalD3 => illegal 0
  | .callNcA16 addr => callCcA16 .nc addr
  | .pushDe => pushRr .de
  | .subD8 n => aluD8 .sub n
  | .rst10H => rst 2
  | .retC => retCc .c
  | .reti => reti
  | .jpCA16 addr => jpCcA16 .c addr
  | .illegalDB => illegal 1
  | .callCA16 addr => callCcA16 .c addr
  | .illegalDD => illegal 2
  | .sbcAD8 n => aluD8 .sbc n
  | .rst18H => rst 3
  | .ldhMemA8A n => ldhMemA8A n
  | .popHl => popRr .hl
  | .ldMemCA => ldMemCA
  | .illegalE3 => illegal 3
  | .illegalE4 => illegal 4
  | .pushHl => pushRr .hl
  | .andD8 n => aluD8 .and n
  | .rst20H => rst 4
  | .addSpE8 e => addSpE8 e
  | .jpHl => jpHl
  | .ldMemA16A addr => ldMemA16A addr
  | .illegalEB => illegal 5
  | .illegalEC => illegal 6
  | .illegalED => illegal 7
  | .xorD8 n => aluD8 .xor n
  | .rst28H => rst 5
  | .ldhAMemA8 n => ldhAMemA8 n
  | .popAf => popRr .af
  | .ldAMemC => ldAMemC
  | .di => di
  | .illegalF4 => illegal 8
  | .pushAf => pushRr .af
  | .orD8 n => aluD8 .or n
  | .rst30H => rst 6
  | .ldHlSpE8 e => ldHlSpE8 e
  | .ldSpHl => ldSpHl
  | .ldAMemA16 addr => ldAMemA16 addr
  | .ei => ei
  | .illegalFC => illegal 9
  | .illegalFD => illegal 10
  | .cpD8 n => aluD8 .cp n
  | .rst38H => rst 7
  | .rlcB => rotR .rlc .b
  | .rlcC => rotR .rlc .c
  | .rlcD => rotR .rlc .d
  | .rlcE => rotR .rlc .e
  | .rlcH => rotR .rlc .h
  | .rlcL => rotR .rlc .l
  | .rlcMemHl => rotMemHl .rlc
  | .rlcA => rotR .rlc .a
  | .rrcB => rotR .rrc .b
  | .rrcC => rotR .rrc .c
  | .rrcD => rotR .rrc .d
  | .rrcE => rotR .rrc .e
  | .rrcH => rotR .rrc .h
  | .rrcL => rotR .rrc .l
  | .rrcMemHl => rotMemHl .rrc
  | .rrcA => rotR .rrc .a
  | .rlB => rotR .rl .b
  | .rlC => rotR .rl .c
  | .rlD => rotR .rl .d
  | .rlE => rotR .rl .e
  | .rlH => rotR .rl .h
  | .rlL => rotR .rl .l
  | .rlMemHl => rotMemHl .rl
  | .rlA => rotR .rl .a
  | .rrB => rotR .rr .b
  | .rrC => rotR .rr .c
  | .rrD => rotR .rr .d
  | .rrE => rotR .rr .e
  | .rrH => rotR .rr .h
  | .rrL => rotR .rr .l
  | .rrMemHl => rotMemHl .rr
  | .rrA => rotR .rr .a
  | .slaB => rotR .sla .b
  | .slaC => rotR .sla .c
  | .slaD => rotR .sla .d
  | .slaE => rotR .sla .e
  | .slaH => rotR .sla .h
  | .slaL => rotR .sla .l
  | .slaMemHl => rotMemHl .sla
  | .slaA => rotR .sla .a
  | .sraB => rotR .sra .b
  | .sraC => rotR .sra .c
  | .sraD => rotR .sra .d
  | .sraE => rotR .sra .e
  | .sraH => rotR .sra .h
  | .sraL => rotR .sra .l
  | .sraMemHl => rotMemHl .sra
  | .sraA => rotR .sra .a
  | .swapB => rotR .swap .b
  | .swapC => rotR .swap .c
  | .swapD => rotR .swap .d
  | .swapE => rotR .swap .e
  | .swapH => rotR .swap .h
  | .swapL => rotR .swap .l
  | .swapMemHl => rotMemHl .swap
  | .swapA => rotR .swap .a
  | .srlB => rotR .srl .b
  | .srlC => rotR .srl .c
  | .srlD => rotR .srl .d
  | .srlE => rotR .srl .e
  | .srlH => rotR .srl .h
  | .srlL => rotR .srl .l
  | .srlMemHl => rotMemHl .srl
  | .srlA => rotR .srl .a
  | .bit0B => bitR 0 .b
  | .bit0C => bitR 0 .c
  | .bit0D => bitR 0 .d
  | .bit0E => bitR 0 .e
  | .bit0H => bitR 0 .h
  | .bit0L => bitR 0 .l
  | .bit0MemHl => bitMemHl 0
  | .bit0A => bitR 0 .a
  | .bit1B => bitR 1 .b
  | .bit1C => bitR 1 .c
  | .bit1D => bitR 1 .d
  | .bit1E => bitR 1 .e
  | .bit1H => bitR 1 .h
  | .bit1L => bitR 1 .l
  | .bit1MemHl => bitMemHl 1
  | .bit1A => bitR 1 .a
  | .bit2B => bitR 2 .b
  | .bit2C => bitR 2 .c
  | .bit2D => bitR 2 .d
  | .bit2E => bitR 2 .e
  | .bit2H => bitR 2 .h
  | .bit2L => bitR 2 .l
  | .bit2MemHl => bitMemHl 2
  | .bit2A => bitR 2 .a
  | .bit3B => bitR 3 .b
  | .bit3C => bitR 3 .c
  | .bit3D => bitR 3 .d
  | .bit3E => bitR 3 .e
  | .bit3H => bitR 3 .h
  | .bit3L => bitR 3 .l
  | .bit3MemHl => bitMemHl 3
  | .bit3A => bitR 3 .a
  | .bit4B => bitR 4 .b
  | .bit4C => bitR 4 .c
  | .bit4D => bitR 4 .d
  | .bit4E => bitR 4 .e
  | .bit4H => bitR 4 .h
  | .bit4L => bitR 4 .l
  | .bit4MemHl => bitMemHl 4
  | .bit4A => bitR 4 .a
  | .bit5B => bitR 5 .b
  | .bit5C => bitR 5 .c
  | .bit5D => bitR 5 .d
  | .bit5E => bitR 5 .e
  | .bit5H => bitR 5 .h
  | .bit5L => bitR 5 .l
  | .bit5MemHl => bitMemHl 5
  | .bit5A => bitR 5 .a
  | .bit6B => bitR 6 .b
  | .bit6C => bitR 6 .c
  | .bit6D => bitR 6 .d
  | .bit6E => bitR 6 .e
  | .bit6H => bitR 6 .h
  | .bit6L => bitR 6 .l
  | .bit6MemHl => bitMemHl 6
  | .bit6A => bitR 6 .a
  | .bit7B => bitR 7 .b
  | .bit7C => bitR 7 .c
  | .bit7D => bitR 7 .d
  | .bit7E => bitR 7 .e
  | .bit7H => bitR 7 .h
  | .bit7L => bitR 7 .l
  | .bit7MemHl => bitMemHl 7
  | .bit7A => bitR 7 .a
  | .res0B => resR 0 .b
  | .res0C => resR 0 .c
  | .res0D => resR 0 .d
  | .res0E => resR 0 .e
  | .res0H => resR 0 .h
  | .res0L => resR 0 .l
  | .res0MemHl => resMemHl 0
  | .res0A => resR 0 .a
  | .res1B => resR 1 .b
  | .res1C => resR 1 .c
  | .res1D => resR 1 .d
  | .res1E => resR 1 .e
  | .res1H => resR 1 .h
  | .res1L => resR 1 .l
  | .res1MemHl => resMemHl 1
  | .res1A => resR 1 .a
  | .res2B => resR 2 .b
  | .res2C => resR 2 .c
  | .res2D => resR 2 .d
  | .res2E => resR 2 .e
  | .res2H => resR 2 .h
  | .res2L => resR 2 .l
  | .res2MemHl => resMemHl 2
  | .res2A => resR 2 .a
  | .res3B => resR 3 .b
  | .res3C => resR 3 .c
  | .res3D => resR 3 .d
  | .res3E => resR 3 .e
  | .res3H => resR 3 .h
  | .res3L => resR 3 .l
  | .res3MemHl => resMemHl 3
  | .res3A => resR 3 .a
  | .res4B => resR 4 .b
  | .res4C => resR 4 .c
  | .res4D => resR 4 .d
  | .res4E => resR 4 .e
  | .res4H => resR 4 .h
  | .res4L => resR 4 .l
  | .res4MemHl => resMemHl 4
  | .res4A => resR 4 .a
  | .res5B => resR 5 .b
  | .res5C => resR 5 .c
  | .res5D => resR 5 .d
  | .res5E => resR 5 .e
  | .res5H => resR 5 .h
  | .res5L => resR 5 .l
  | .res5MemHl => resMemHl 5
  | .res5A => resR 5 .a
  | .res6B => resR 6 .b
  | .res6C => resR 6 .c
  | .res6D => resR 6 .d
  | .res6E => resR 6 .e
  | .res6H => resR 6 .h
  | .res6L => resR 6 .l
  | .res6MemHl => resMemHl 6
  | .res6A => resR 6 .a
  | .res7B => resR 7 .b
  | .res7C => resR 7 .c
  | .res7D => resR 7 .d
  | .res7E => resR 7 .e
  | .res7H => resR 7 .h
  | .res7L => resR 7 .l
  | .res7MemHl => resMemHl 7
  | .res7A => resR 7 .a
  | .set0B => setR 0 .b
  | .set0C => setR 0 .c
  | .set0D => setR 0 .d
  | .set0E => setR 0 .e
  | .set0H => setR 0 .h
  | .set0L => setR 0 .l
  | .set0MemHl => setMemHl 0
  | .set0A => setR 0 .a
  | .set1B => setR 1 .b
  | .set1C => setR 1 .c
  | .set1D => setR 1 .d
  | .set1E => setR 1 .e
  | .set1H => setR 1 .h
  | .set1L => setR 1 .l
  | .set1MemHl => setMemHl 1
  | .set1A => setR 1 .a
  | .set2B => setR 2 .b
  | .set2C => setR 2 .c
  | .set2D => setR 2 .d
  | .set2E => setR 2 .e
  | .set2H => setR 2 .h
  | .set2L => setR 2 .l
  | .set2MemHl => setMemHl 2
  | .set2A => setR 2 .a
  | .set3B => setR 3 .b
  | .set3C => setR 3 .c
  | .set3D => setR 3 .d
  | .set3E => setR 3 .e
  | .set3H => setR 3 .h
  | .set3L => setR 3 .l
  | .set3MemHl => setMemHl 3
  | .set3A => setR 3 .a
  | .set4B => setR 4 .b
  | .set4C => setR 4 .c
  | .set4D => setR 4 .d
  | .set4E => setR 4 .e
  | .set4H => setR 4 .h
  | .set4L => setR 4 .l
  | .set4MemHl => setMemHl 4
  | .set4A => setR 4 .a
  | .set5B => setR 5 .b
  | .set5C => setR 5 .c
  | .set5D => setR 5 .d
  | .set5E => setR 5 .e
  | .set5H => setR 5 .h
  | .set5L => setR 5 .l
  | .set5MemHl => setMemHl 5
  | .set5A => setR 5 .a
  | .set6B => setR 6 .b
  | .set6C => setR 6 .c
  | .set6D => setR 6 .d
  | .set6E => setR 6 .e
  | .set6H => setR 6 .h
  | .set6L => setR 6 .l
  | .set6MemHl => setMemHl 6
  | .set6A => setR 6 .a
  | .set7B => setR 7 .b
  | .set7C => setR 7 .c
  | .set7D => setR 7 .d
  | .set7E => setR 7 .e
  | .set7H => setR 7 .h
  | .set7L => setR 7 .l
  | .set7MemHl => setMemHl 7
  | .set7A => setR 7 .a

end Sys2Proof
end

