-- ==== Sys2Proof/Laws/State.lean ====
section
/-! SUPPORT. One lemma for each field of each state update (the named updates of Memory.lean, Operands.lean, Ops.lean,
RunLoop.lean and Safety.lean), so that no proof unfolds a record update. -/

namespace Sys2Proof.Machine

@[simp] theorem State.storeByte_a (s : State) (addr : Word) (v : Byte) : (s.storeByte addr v).a = s.a := rfl
@[simp] theorem State.storeByte_b (s : State) (addr : Word) (v : Byte) : (s.storeByte addr v).b = s.b := rfl
@[simp] theorem State.storeByte_c (s : State) (addr : Word) (v : Byte) : (s.storeByte addr v).c = s.c := rfl
@[simp] theorem State.storeByte_d (s : State) (addr : Word) (v : Byte) : (s.storeByte addr v).d = s.d := rfl
@[simp] theorem State.storeByte_e (s : State) (addr : Word) (v : Byte) : (s.storeByte addr v).e = s.e := rfl
@[simp] theorem State.storeByte_h (s : State) (addr : Word) (v : Byte) : (s.storeByte addr v).h = s.h := rfl
@[simp] theorem State.storeByte_l (s : State) (addr : Word) (v : Byte) : (s.storeByte addr v).l = s.l := rfl
@[simp] theorem State.storeByte_f (s : State) (addr : Word) (v : Byte) : (s.storeByte addr v).f = s.f := rfl
@[simp] theorem State.storeByte_sp (s : State) (addr : Word) (v : Byte) : (s.storeByte addr v).sp = s.sp := rfl
@[simp] theorem State.storeByte_pc (s : State) (addr : Word) (v : Byte) : (s.storeByte addr v).pc = s.pc := rfl
@[simp] theorem State.storeByte_ime (s : State) (addr : Word) (v : Byte) : (s.storeByte addr v).ime = s.ime := rfl
@[simp] theorem State.storeByte_eiDelay (s : State) (addr : Word) (v : Byte) : (s.storeByte addr v).eiDelay = s.eiDelay := rfl
@[simp] theorem State.storeByte_run (s : State) (addr : Word) (v : Byte) : (s.storeByte addr v).run = s.run := rfl
@[simp] theorem State.storeByte_mem (s : State) (addr : Word) (v : Byte) : (s.storeByte addr v).mem = s.mem.write addr.toNat v := rfl
@[simp] theorem State.storeByte_rejects (s : State) (addr : Word) (v : Byte) : (s.storeByte addr v).rejects = s.rejects := rfl
@[simp] theorem State.storeByte_replies (s : State) (addr : Word) (v : Byte) : (s.storeByte addr v).replies = s.replies := rfl
@[simp] theorem State.storeByte_requests (s : State) (addr : Word) (v : Byte) : (s.storeByte addr v).requests = s.requests := rfl
@[simp] theorem State.storeByte_cfg (s : State) (addr : Word) (v : Byte) : (s.storeByte addr v).cfg = s.cfg := rfl
@[simp] theorem State.storeByte_cycles (s : State) (addr : Word) (v : Byte) : (s.storeByte addr v).cycles = s.cycles := rfl
@[simp] theorem State.storeByte_timerCalls (s : State) (addr : Word) (v : Byte) : (s.storeByte addr v).timerCalls = s.timerCalls := rfl
@[simp] theorem State.storeByte_busCalls (s : State) (addr : Word) (v : Byte) : (s.storeByte addr v).busCalls = s.busCalls := rfl

@[simp] theorem State.noteCall_a (s : State) (dir : Dir) (addr : Word) (v : Byte) : (s.noteCall dir addr v).a = s.a := rfl
@[simp] theorem State.noteCall_b (s : State) (dir : Dir) (addr : Word) (v : Byte) : (s.noteCall dir addr v).b = s.b := rfl
@[simp] theorem State.noteCall_c (s : State) (dir : Dir) (addr : Word) (v : Byte) : (s.noteCall dir addr v).c = s.c := rfl
@[simp] theorem State.noteCall_d (s : State) (dir : Dir) (addr : Word) (v : Byte) : (s.noteCall dir addr v).d = s.d := rfl
@[simp] theorem State.noteCall_e (s : State) (dir : Dir) (addr : Word) (v : Byte) : (s.noteCall dir addr v).e = s.e := rfl
@[simp] theorem State.noteCall_h (s : State) (dir : Dir) (addr : Word) (v : Byte) : (s.noteCall dir addr v).h = s.h := rfl
@[simp] theorem State.noteCall_l (s : State) (dir : Dir) (addr : Word) (v : Byte) : (s.noteCall dir addr v).l = s.l := rfl
@[simp] theorem State.noteCall_f (s : State) (dir : Dir) (addr : Word) (v : Byte) : (s.noteCall dir addr v).f = s.f := rfl
@[simp] theorem State.noteCall_sp (s : State) (dir : Dir) (addr : Word) (v : Byte) : (s.noteCall dir addr v).sp = s.sp := rfl
@[simp] theorem State.noteCall_pc (s : State) (dir : Dir) (addr : Word) (v : Byte) : (s.noteCall dir addr v).pc = s.pc := rfl
@[simp] theorem State.noteCall_ime (s : State) (dir : Dir) (addr : Word) (v : Byte) : (s.noteCall dir addr v).ime = s.ime := rfl
@[simp] theorem State.noteCall_eiDelay (s : State) (dir : Dir) (addr : Word) (v : Byte) : (s.noteCall dir addr v).eiDelay = s.eiDelay := rfl
@[simp] theorem State.noteCall_run (s : State) (dir : Dir) (addr : Word) (v : Byte) : (s.noteCall dir addr v).run = s.run := rfl
@[simp] theorem State.noteCall_mem (s : State) (dir : Dir) (addr : Word) (v : Byte) : (s.noteCall dir addr v).mem = s.mem := rfl
@[simp] theorem State.noteCall_rejects (s : State) (dir : Dir) (addr : Word) (v : Byte) : (s.noteCall dir addr v).rejects = s.rejects := rfl
@[simp] theorem State.noteCall_replies (s : State) (dir : Dir) (addr : Word) (v : Byte) : (s.noteCall dir addr v).replies = s.replies := rfl
@[simp] theorem State.noteCall_requests (s : State) (dir : Dir) (addr : Word) (v : Byte) : (s.noteCall dir addr v).requests = s.requests := rfl
@[simp] theorem State.noteCall_cfg (s : State) (dir : Dir) (addr : Word) (v : Byte) : (s.noteCall dir addr v).cfg = s.cfg := rfl
@[simp] theorem State.noteCall_cycles (s : State) (dir : Dir) (addr : Word) (v : Byte) : (s.noteCall dir addr v).cycles = s.cycles := rfl
@[simp] theorem State.noteCall_timerCalls (s : State) (dir : Dir) (addr : Word) (v : Byte) : (s.noteCall dir addr v).timerCalls = s.timerCalls := rfl
@[simp] theorem State.noteCall_busCalls (s : State) (dir : Dir) (addr : Word) (v : Byte) : (s.noteCall dir addr v).busCalls = s.busCalls ++ [⟨dir, addr, v⟩] := rfl

@[simp] theorem State.setHl_a (s : State) (v : Word) : (s.setHl v).a = s.a := rfl
@[simp] theorem State.setHl_b (s : State) (v : Word) : (s.setHl v).b = s.b := rfl
@[simp] theorem State.setHl_c (s : State) (v : Word) : (s.setHl v).c = s.c := rfl
@[simp] theorem State.setHl_d (s : State) (v : Word) : (s.setHl v).d = s.d := rfl
@[simp] theorem State.setHl_e (s : State) (v : Word) : (s.setHl v).e = s.e := rfl
@[simp] theorem State.setHl_h (s : State) (v : Word) : (s.setHl v).h = hiByte v := rfl
@[simp] theorem State.setHl_l (s : State) (v : Word) : (s.setHl v).l = loByte v := rfl
@[simp] theorem State.setHl_f (s : State) (v : Word) : (s.setHl v).f = s.f := rfl
@[simp] theorem State.setHl_sp (s : State) (v : Word) : (s.setHl v).sp = s.sp := rfl
@[simp] theorem State.setHl_pc (s : State) (v : Word) : (s.setHl v).pc = s.pc := rfl
@[simp] theorem State.setHl_ime (s : State) (v : Word) : (s.setHl v).ime = s.ime := rfl
@[simp] theorem State.setHl_eiDelay (s : State) (v : Word) : (s.setHl v).eiDelay = s.eiDelay := rfl
@[simp] theorem State.setHl_run (s : State) (v : Word) : (s.setHl v).run = s.run := rfl
@[simp] theorem State.setHl_mem (s : State) (v : Word) : (s.setHl v).mem = s.mem := rfl
@[simp] theorem State.setHl_rejects (s : State) (v : Word) : (s.setHl v).rejects = s.rejects := rfl
@[simp] theorem State.setHl_replies (s : State) (v : Word) : (s.setHl v).replies = s.replies := rfl
@[simp] theorem State.setHl_requests (s : State) (v : Word) : (s.setHl v).requests = s.requests := rfl
@[simp] theorem State.setHl_cfg (s : State) (v : Word) : (s.setHl v).cfg = s.cfg := rfl
@[simp] theorem State.setHl_cycles (s : State) (v : Word) : (s.setHl v).cycles = s.cycles := rfl
@[simp] theorem State.setHl_timerCalls (s : State) (v : Word) : (s.setHl v).timerCalls = s.timerCalls := rfl
@[simp] theorem State.setHl_busCalls (s : State) (v : Word) : (s.setHl v).busCalls = s.busCalls := rfl

@[simp] theorem State.setR8_f (s : State) (r : Reg8) (v : Byte) : (s.setR8 r v).f = s.f := by cases r <;> rfl
@[simp] theorem State.setR8_sp (s : State) (r : Reg8) (v : Byte) : (s.setR8 r v).sp = s.sp := by cases r <;> rfl
@[simp] theorem State.setR8_pc (s : State) (r : Reg8) (v : Byte) : (s.setR8 r v).pc = s.pc := by cases r <;> rfl
@[simp] theorem State.setR8_ime (s : State) (r : Reg8) (v : Byte) : (s.setR8 r v).ime = s.ime := by cases r <;> rfl
@[simp] theorem State.setR8_eiDelay (s : State) (r : Reg8) (v : Byte) : (s.setR8 r v).eiDelay = s.eiDelay := by cases r <;> rfl
@[simp] theorem State.setR8_run (s : State) (r : Reg8) (v : Byte) : (s.setR8 r v).run = s.run := by cases r <;> rfl
@[simp] theorem State.setR8_mem (s : State) (r : Reg8) (v : Byte) : (s.setR8 r v).mem = s.mem := by cases r <;> rfl
@[simp] theorem State.setR8_rejects (s : State) (r : Reg8) (v : Byte) : (s.setR8 r v).rejects = s.rejects := by cases r <;> rfl
@[simp] theorem State.setR8_replies (s : State) (r : Reg8) (v : Byte) : (s.setR8 r v).replies = s.replies := by cases r <;> rfl
@[simp] theorem State.setR8_requests (s : State) (r : Reg8) (v : Byte) : (s.setR8 r v).requests = s.requests := by cases r <;> rfl
@[simp] theorem State.setR8_cfg (s : State) (r : Reg8) (v : Byte) : (s.setR8 r v).cfg = s.cfg := by cases r <;> rfl
@[simp] theorem State.setR8_cycles (s : State) (r : Reg8) (v : Byte) : (s.setR8 r v).cycles = s.cycles := by cases r <;> rfl
@[simp] theorem State.setR8_timerCalls (s : State) (r : Reg8) (v : Byte) : (s.setR8 r v).timerCalls = s.timerCalls := by cases r <;> rfl
@[simp] theorem State.setR8_busCalls (s : State) (r : Reg8) (v : Byte) : (s.setR8 r v).busCalls = s.busCalls := by cases r <;> rfl

@[simp] theorem State.setR16_a (s : State) (r : Reg16) (v : Word) : (s.setR16 r v).a = s.a := by cases r <;> rfl
@[simp] theorem State.setR16_f (s : State) (r : Reg16) (v : Word) : (s.setR16 r v).f = s.f := by cases r <;> rfl
@[simp] theorem State.setR16_pc (s : State) (r : Reg16) (v : Word) : (s.setR16 r v).pc = s.pc := by cases r <;> rfl
@[simp] theorem State.setR16_ime (s : State) (r : Reg16) (v : Word) : (s.setR16 r v).ime = s.ime := by cases r <;> rfl
@[simp] theorem State.setR16_eiDelay (s : State) (r : Reg16) (v : Word) : (s.setR16 r v).eiDelay = s.eiDelay := by cases r <;> rfl
@[simp] theorem State.setR16_run (s : State) (r : Reg16) (v : Word) : (s.setR16 r v).run = s.run := by cases r <;> rfl
@[simp] theorem State.setR16_mem (s : State) (r : Reg16) (v : Word) : (s.setR16 r v).mem = s.mem := by cases r <;> rfl
@[simp] theorem State.setR16_rejects (s : State) (r : Reg16) (v : Word) : (s.setR16 r v).rejects = s.rejects := by cases r <;> rfl
@[simp] theorem State.setR16_replies (s : State) (r : Reg16) (v : Word) : (s.setR16 r v).replies = s.replies := by cases r <;> rfl
@[simp] theorem State.setR16_requests (s : State) (r : Reg16) (v : Word) : (s.setR16 r v).requests = s.requests := by cases r <;> rfl
@[simp] theorem State.setR16_cfg (s : State) (r : Reg16) (v : Word) : (s.setR16 r v).cfg = s.cfg := by cases r <;> rfl
@[simp] theorem State.setR16_cycles (s : State) (r : Reg16) (v : Word) : (s.setR16 r v).cycles = s.cycles := by cases r <;> rfl
@[simp] theorem State.setR16_timerCalls (s : State) (r : Reg16) (v : Word) : (s.setR16 r v).timerCalls = s.timerCalls := by cases r <;> rfl
@[simp] theorem State.setR16_busCalls (s : State) (r : Reg16) (v : Word) : (s.setR16 r v).busCalls = s.busCalls := by cases r <;> rfl

@[simp] theorem State.setR16S_sp (s : State) (r : Reg16S) (v : Word) : (s.setR16S r v).sp = s.sp := by cases r <;> rfl
@[simp] theorem State.setR16S_pc (s : State) (r : Reg16S) (v : Word) : (s.setR16S r v).pc = s.pc := by cases r <;> rfl
@[simp] theorem State.setR16S_ime (s : State) (r : Reg16S) (v : Word) : (s.setR16S r v).ime = s.ime := by cases r <;> rfl
@[simp] theorem State.setR16S_eiDelay (s : State) (r : Reg16S) (v : Word) : (s.setR16S r v).eiDelay = s.eiDelay := by cases r <;> rfl
@[simp] theorem State.setR16S_run (s : State) (r : Reg16S) (v : Word) : (s.setR16S r v).run = s.run := by cases r <;> rfl
@[simp] theorem State.setR16S_mem (s : State) (r : Reg16S) (v : Word) : (s.setR16S r v).mem = s.mem := by cases r <;> rfl
@[simp] theorem State.setR16S_rejects (s : State) (r : Reg16S) (v : Word) : (s.setR16S r v).rejects = s.rejects := by cases r <;> rfl
@[simp] theorem State.setR16S_replies (s : State) (r : Reg16S) (v : Word) : (s.setR16S r v).replies = s.replies := by cases r <;> rfl
@[simp] theorem State.setR16S_requests (s : State) (r : Reg16S) (v : Word) : (s.setR16S r v).requests = s.requests := by cases r <;> rfl
@[simp] theorem State.setR16S_cfg (s : State) (r : Reg16S) (v : Word) : (s.setR16S r v).cfg = s.cfg := by cases r <;> rfl
@[simp] theorem State.setR16S_cycles (s : State) (r : Reg16S) (v : Word) : (s.setR16S r v).cycles = s.cycles := by cases r <;> rfl
@[simp] theorem State.setR16S_timerCalls (s : State) (r : Reg16S) (v : Word) : (s.setR16S r v).timerCalls = s.timerCalls := by cases r <;> rfl
@[simp] theorem State.setR16S_busCalls (s : State) (r : Reg16S) (v : Word) : (s.setR16S r v).busCalls = s.busCalls := by cases r <;> rfl

@[simp] theorem State.faultedBy_a (s : State) (f : Fault) : (s.faultedBy f).a = s.a := rfl
@[simp] theorem State.faultedBy_b (s : State) (f : Fault) : (s.faultedBy f).b = s.b := rfl
@[simp] theorem State.faultedBy_c (s : State) (f : Fault) : (s.faultedBy f).c = s.c := rfl
@[simp] theorem State.faultedBy_d (s : State) (f : Fault) : (s.faultedBy f).d = s.d := rfl
@[simp] theorem State.faultedBy_e (s : State) (f : Fault) : (s.faultedBy f).e = s.e := rfl
@[simp] theorem State.faultedBy_h (s : State) (f : Fault) : (s.faultedBy f).h = s.h := rfl
@[simp] theorem State.faultedBy_l (s : State) (f : Fault) : (s.faultedBy f).l = s.l := rfl
@[simp] theorem State.faultedBy_f (s : State) (f : Fault) : (s.faultedBy f).f = s.f := rfl
@[simp] theorem State.faultedBy_sp (s : State) (f : Fault) : (s.faultedBy f).sp = s.sp := rfl
@[simp] theorem State.faultedBy_pc (s : State) (f : Fault) : (s.faultedBy f).pc = s.pc := rfl
@[simp] theorem State.faultedBy_ime (s : State) (f : Fault) : (s.faultedBy f).ime = s.ime := rfl
@[simp] theorem State.faultedBy_eiDelay (s : State) (f : Fault) : (s.faultedBy f).eiDelay = s.eiDelay := rfl
@[simp] theorem State.faultedBy_run (s : State) (f : Fault) : (s.faultedBy f).run = .faulted f := rfl
@[simp] theorem State.faultedBy_mem (s : State) (f : Fault) : (s.faultedBy f).mem = s.mem := rfl
@[simp] theorem State.faultedBy_rejects (s : State) (f : Fault) : (s.faultedBy f).rejects = s.rejects := rfl
@[simp] theorem State.faultedBy_replies (s : State) (f : Fault) : (s.faultedBy f).replies = s.replies := rfl
@[simp] theorem State.faultedBy_requests (s : State) (f : Fault) : (s.faultedBy f).requests = s.requests := rfl
@[simp] theorem State.faultedBy_cfg (s : State) (f : Fault) : (s.faultedBy f).cfg = s.cfg := rfl
@[simp] theorem State.faultedBy_cycles (s : State) (f : Fault) : (s.faultedBy f).cycles = s.cycles := rfl
@[simp] theorem State.faultedBy_timerCalls (s : State) (f : Fault) : (s.faultedBy f).timerCalls = s.timerCalls := rfl
@[simp] theorem State.faultedBy_busCalls (s : State) (f : Fault) : (s.faultedBy f).busCalls = s.busCalls := rfl

@[simp] theorem State.beginIteration_a (s : State) : (s.beginIteration).a = s.a := rfl
@[simp] theorem State.beginIteration_b (s : State) : (s.beginIteration).b = s.b := rfl
@[simp] theorem State.beginIteration_c (s : State) : (s.beginIteration).c = s.c := rfl
@[simp] theorem State.beginIteration_d (s : State) : (s.beginIteration).d = s.d := rfl
@[simp] theorem State.beginIteration_e (s : State) : (s.beginIteration).e = s.e := rfl
@[simp] theorem State.beginIteration_h (s : State) : (s.beginIteration).h = s.h := rfl
@[simp] theorem State.beginIteration_l (s : State) : (s.beginIteration).l = s.l := rfl
@[simp] theorem State.beginIteration_f (s : State) : (s.beginIteration).f = s.f := rfl
@[simp] theorem State.beginIteration_sp (s : State) : (s.beginIteration).sp = s.sp := rfl
@[simp] theorem State.beginIteration_pc (s : State) : (s.beginIteration).pc = s.pc := rfl
@[simp] theorem State.beginIteration_ime (s : State) : (s.beginIteration).ime = s.ime := rfl
@[simp] theorem State.beginIteration_eiDelay (s : State) : (s.beginIteration).eiDelay = s.eiDelay := rfl
@[simp] theorem State.beginIteration_run (s : State) : (s.beginIteration).run = s.run := rfl
@[simp] theorem State.beginIteration_mem (s : State) : (s.beginIteration).mem = s.mem := rfl
@[simp] theorem State.beginIteration_rejects (s : State) : (s.beginIteration).rejects = s.rejects := rfl
@[simp] theorem State.beginIteration_replies (s : State) : (s.beginIteration).replies = s.replies := rfl
@[simp] theorem State.beginIteration_requests (s : State) : (s.beginIteration).requests = s.requests := rfl
@[simp] theorem State.beginIteration_cfg (s : State) : (s.beginIteration).cfg = s.cfg := rfl
@[simp] theorem State.beginIteration_cycles (s : State) : (s.beginIteration).cycles = none := rfl
@[simp] theorem State.beginIteration_timerCalls (s : State) : (s.beginIteration).timerCalls = [] := rfl
@[simp] theorem State.beginIteration_busCalls (s : State) : (s.beginIteration).busCalls = [] := rfl

@[simp] theorem State.returns_a (s : State) (n : Nat) : (s.returns n).a = s.a := rfl
@[simp] theorem State.returns_b (s : State) (n : Nat) : (s.returns n).b = s.b := rfl
@[simp] theorem State.returns_c (s : State) (n : Nat) : (s.returns n).c = s.c := rfl
@[simp] theorem State.returns_d (s : State) (n : Nat) : (s.returns n).d = s.d := rfl
@[simp] theorem State.returns_e (s : State) (n : Nat) : (s.returns n).e = s.e := rfl
@[simp] theorem State.returns_h (s : State) (n : Nat) : (s.returns n).h = s.h := rfl
@[simp] theorem State.returns_l (s : State) (n : Nat) : (s.returns n).l = s.l := rfl
@[simp] theorem State.returns_f (s : State) (n : Nat) : (s.returns n).f = s.f := rfl
@[simp] theorem State.returns_sp (s : State) (n : Nat) : (s.returns n).sp = s.sp := rfl
@[simp] theorem State.returns_pc (s : State) (n : Nat) : (s.returns n).pc = s.pc := rfl
@[simp] theorem State.returns_ime (s : State) (n : Nat) : (s.returns n).ime = s.ime := rfl
@[simp] theorem State.returns_eiDelay (s : State) (n : Nat) : (s.returns n).eiDelay = s.eiDelay := rfl
@[simp] theorem State.returns_run (s : State) (n : Nat) : (s.returns n).run = s.run := rfl
@[simp] theorem State.returns_mem (s : State) (n : Nat) : (s.returns n).mem = s.mem := rfl
@[simp] theorem State.returns_rejects (s : State) (n : Nat) : (s.returns n).rejects = s.rejects := rfl
@[simp] theorem State.returns_replies (s : State) (n : Nat) : (s.returns n).replies = s.replies := rfl
@[simp] theorem State.returns_requests (s : State) (n : Nat) : (s.returns n).requests = s.requests := rfl
@[simp] theorem State.returns_cfg (s : State) (n : Nat) : (s.returns n).cfg = s.cfg := rfl
@[simp] theorem State.returns_cycles (s : State) (n : Nat) : (s.returns n).cycles = some n := rfl
@[simp] theorem State.returns_timerCalls (s : State) (n : Nat) : (s.returns n).timerCalls = s.timerCalls := rfl
@[simp] theorem State.returns_busCalls (s : State) (n : Nat) : (s.returns n).busCalls = s.busCalls := rfl

@[simp] theorem State.busMoves_a (s : State) (stored : List (Word × Byte)) : (s.busMoves stored).a = s.a := rfl
@[simp] theorem State.busMoves_b (s : State) (stored : List (Word × Byte)) : (s.busMoves stored).b = s.b := rfl
@[simp] theorem State.busMoves_c (s : State) (stored : List (Word × Byte)) : (s.busMoves stored).c = s.c := rfl
@[simp] theorem State.busMoves_d (s : State) (stored : List (Word × Byte)) : (s.busMoves stored).d = s.d := rfl
@[simp] theorem State.busMoves_e (s : State) (stored : List (Word × Byte)) : (s.busMoves stored).e = s.e := rfl
@[simp] theorem State.busMoves_h (s : State) (stored : List (Word × Byte)) : (s.busMoves stored).h = s.h := rfl
@[simp] theorem State.busMoves_l (s : State) (stored : List (Word × Byte)) : (s.busMoves stored).l = s.l := rfl
@[simp] theorem State.busMoves_f (s : State) (stored : List (Word × Byte)) : (s.busMoves stored).f = s.f := rfl
@[simp] theorem State.busMoves_sp (s : State) (stored : List (Word × Byte)) : (s.busMoves stored).sp = s.sp := rfl
@[simp] theorem State.busMoves_pc (s : State) (stored : List (Word × Byte)) : (s.busMoves stored).pc = s.pc := rfl
@[simp] theorem State.busMoves_ime (s : State) (stored : List (Word × Byte)) : (s.busMoves stored).ime = s.ime := rfl
@[simp] theorem State.busMoves_eiDelay (s : State) (stored : List (Word × Byte)) : (s.busMoves stored).eiDelay = s.eiDelay := rfl
@[simp] theorem State.busMoves_run (s : State) (stored : List (Word × Byte)) : (s.busMoves stored).run = s.run := rfl
@[simp] theorem State.busMoves_mem (s : State) (stored : List (Word × Byte)) : (s.busMoves stored).mem = s.memAfterCall stored := rfl
@[simp] theorem State.busMoves_rejects (s : State) (stored : List (Word × Byte)) : (s.busMoves stored).rejects = s.rejects := rfl
@[simp] theorem State.busMoves_replies (s : State) (stored : List (Word × Byte)) : (s.busMoves stored).replies = s.replies.tail := rfl
@[simp] theorem State.busMoves_requests (s : State) (stored : List (Word × Byte)) : (s.busMoves stored).requests = s.requests := rfl
@[simp] theorem State.busMoves_cfg (s : State) (stored : List (Word × Byte)) : (s.busMoves stored).cfg = s.cfg := rfl
@[simp] theorem State.busMoves_cycles (s : State) (stored : List (Word × Byte)) : (s.busMoves stored).cycles = s.cycles := rfl
@[simp] theorem State.busMoves_timerCalls (s : State) (stored : List (Word × Byte)) : (s.busMoves stored).timerCalls = s.timerCalls := rfl
@[simp] theorem State.busMoves_busCalls (s : State) (stored : List (Word × Byte)) : (s.busMoves stored).busCalls = s.busCalls := rfl

@[simp] theorem State.didRead_a (s : State) (addr : Word) : (s.didRead addr).a = s.a := rfl
@[simp] theorem State.didRead_b (s : State) (addr : Word) : (s.didRead addr).b = s.b := rfl
@[simp] theorem State.didRead_c (s : State) (addr : Word) : (s.didRead addr).c = s.c := rfl
@[simp] theorem State.didRead_d (s : State) (addr : Word) : (s.didRead addr).d = s.d := rfl
@[simp] theorem State.didRead_e (s : State) (addr : Word) : (s.didRead addr).e = s.e := rfl
@[simp] theorem State.didRead_h (s : State) (addr : Word) : (s.didRead addr).h = s.h := rfl
@[simp] theorem State.didRead_l (s : State) (addr : Word) : (s.didRead addr).l = s.l := rfl
@[simp] theorem State.didRead_f (s : State) (addr : Word) : (s.didRead addr).f = s.f := rfl
@[simp] theorem State.didRead_sp (s : State) (addr : Word) : (s.didRead addr).sp = s.sp := rfl
@[simp] theorem State.didRead_pc (s : State) (addr : Word) : (s.didRead addr).pc = s.pc := rfl
@[simp] theorem State.didRead_ime (s : State) (addr : Word) : (s.didRead addr).ime = s.ime := rfl
@[simp] theorem State.didRead_eiDelay (s : State) (addr : Word) : (s.didRead addr).eiDelay = s.eiDelay := rfl
@[simp] theorem State.didRead_run (s : State) (addr : Word) : (s.didRead addr).run = s.run := rfl
@[simp] theorem State.didRead_mem (s : State) (addr : Word) : (s.didRead addr).mem = s.memAfterCall [] := rfl
@[simp] theorem State.didRead_rejects (s : State) (addr : Word) : (s.didRead addr).rejects = s.rejects := rfl
@[simp] theorem State.didRead_replies (s : State) (addr : Word) : (s.didRead addr).replies = s.replies.tail := rfl
@[simp] theorem State.didRead_requests (s : State) (addr : Word) : (s.didRead addr).requests = s.requests := rfl
@[simp] theorem State.didRead_cfg (s : State) (addr : Word) : (s.didRead addr).cfg = s.cfg := rfl
@[simp] theorem State.didRead_cycles (s : State) (addr : Word) : (s.didRead addr).cycles = s.cycles := rfl
@[simp] theorem State.didRead_timerCalls (s : State) (addr : Word) : (s.didRead addr).timerCalls = s.timerCalls := rfl
@[simp] theorem State.didRead_busCalls (s : State) (addr : Word) : (s.didRead addr).busCalls = s.busCalls ++ [⟨.read, addr, s.readValue addr⟩] := rfl

@[simp] theorem State.didWrite_a (s : State) (addr : Word) (v : Byte) : (s.didWrite addr v).a = s.a := rfl
@[simp] theorem State.didWrite_b (s : State) (addr : Word) (v : Byte) : (s.didWrite addr v).b = s.b := rfl
@[simp] theorem State.didWrite_c (s : State) (addr : Word) (v : Byte) : (s.didWrite addr v).c = s.c := rfl
@[simp] theorem State.didWrite_d (s : State) (addr : Word) (v : Byte) : (s.didWrite addr v).d = s.d := rfl
@[simp] theorem State.didWrite_e (s : State) (addr : Word) (v : Byte) : (s.didWrite addr v).e = s.e := rfl
@[simp] theorem State.didWrite_h (s : State) (addr : Word) (v : Byte) : (s.didWrite addr v).h = s.h := rfl
@[simp] theorem State.didWrite_l (s : State) (addr : Word) (v : Byte) : (s.didWrite addr v).l = s.l := rfl
@[simp] theorem State.didWrite_f (s : State) (addr : Word) (v : Byte) : (s.didWrite addr v).f = s.f := rfl
@[simp] theorem State.didWrite_sp (s : State) (addr : Word) (v : Byte) : (s.didWrite addr v).sp = s.sp := rfl
@[simp] theorem State.didWrite_pc (s : State) (addr : Word) (v : Byte) : (s.didWrite addr v).pc = s.pc := rfl
@[simp] theorem State.didWrite_ime (s : State) (addr : Word) (v : Byte) : (s.didWrite addr v).ime = s.ime := rfl
@[simp] theorem State.didWrite_eiDelay (s : State) (addr : Word) (v : Byte) : (s.didWrite addr v).eiDelay = s.eiDelay := rfl
@[simp] theorem State.didWrite_run (s : State) (addr : Word) (v : Byte) : (s.didWrite addr v).run = s.run := rfl
@[simp] theorem State.didWrite_mem (s : State) (addr : Word) (v : Byte) : (s.didWrite addr v).mem = s.memAfterCall [(addr, v)] := rfl
@[simp] theorem State.didWrite_rejects (s : State) (addr : Word) (v : Byte) : (s.didWrite addr v).rejects = s.rejects := rfl
@[simp] theorem State.didWrite_replies (s : State) (addr : Word) (v : Byte) : (s.didWrite addr v).replies = s.replies.tail := rfl
@[simp] theorem State.didWrite_requests (s : State) (addr : Word) (v : Byte) : (s.didWrite addr v).requests = s.requests := rfl
@[simp] theorem State.didWrite_cfg (s : State) (addr : Word) (v : Byte) : (s.didWrite addr v).cfg = s.cfg := rfl
@[simp] theorem State.didWrite_cycles (s : State) (addr : Word) (v : Byte) : (s.didWrite addr v).cycles = s.cycles := rfl
@[simp] theorem State.didWrite_timerCalls (s : State) (addr : Word) (v : Byte) : (s.didWrite addr v).timerCalls = s.timerCalls := rfl
@[simp] theorem State.didWrite_busCalls (s : State) (addr : Word) (v : Byte) : (s.didWrite addr v).busCalls = s.busCalls ++ [⟨.write, addr, v⟩] := rfl

@[simp] theorem State.rejected_a (s : State) : (s.rejected).a = s.a := rfl
@[simp] theorem State.rejected_b (s : State) : (s.rejected).b = s.b := rfl
@[simp] theorem State.rejected_c (s : State) : (s.rejected).c = s.c := rfl
@[simp] theorem State.rejected_d (s : State) : (s.rejected).d = s.d := rfl
@[simp] theorem State.rejected_e (s : State) : (s.rejected).e = s.e := rfl
@[simp] theorem State.rejected_h (s : State) : (s.rejected).h = s.h := rfl
@[simp] theorem State.rejected_l (s : State) : (s.rejected).l = s.l := rfl
@[simp] theorem State.rejected_f (s : State) : (s.rejected).f = s.f := rfl
@[simp] theorem State.rejected_sp (s : State) : (s.rejected).sp = s.sp := rfl
@[simp] theorem State.rejected_pc (s : State) : (s.rejected).pc = s.pc := rfl
@[simp] theorem State.rejected_ime (s : State) : (s.rejected).ime = s.ime := rfl
@[simp] theorem State.rejected_eiDelay (s : State) : (s.rejected).eiDelay = s.eiDelay := rfl
@[simp] theorem State.rejected_run (s : State) : (s.rejected).run = s.run := rfl
@[simp] theorem State.rejected_mem (s : State) : (s.rejected).mem = s.memAfterCall [] := rfl
@[simp] theorem State.rejected_rejects (s : State) : (s.rejected).rejects = s.rejects := rfl
@[simp] theorem State.rejected_replies (s : State) : (s.rejected).replies = s.replies.tail := rfl
@[simp] theorem State.rejected_requests (s : State) : (s.rejected).requests = s.requests := rfl
@[simp] theorem State.rejected_cfg (s : State) : (s.rejected).cfg = s.cfg := rfl
@[simp] theorem State.rejected_cycles (s : State) : (s.rejected).cycles = s.cycles := rfl
@[simp] theorem State.rejected_timerCalls (s : State) : (s.rejected).timerCalls = s.timerCalls := rfl
@[simp] theorem State.rejected_busCalls (s : State) : (s.rejected).busCalls = s.busCalls := rfl

@[simp] theorem State.busFault_a (s : State) (addr : Word) (dir : Dir) : (s.busFault addr dir).a = s.a := rfl
@[simp] theorem State.busFault_b (s : State) (addr : Word) (dir : Dir) : (s.busFault addr dir).b = s.b := rfl
@[simp] theorem State.busFault_c (s : State) (addr : Word) (dir : Dir) : (s.busFault addr dir).c = s.c := rfl
@[simp] theorem State.busFault_d (s : State) (addr : Word) (dir : Dir) : (s.busFault addr dir).d = s.d := rfl
@[simp] theorem State.busFault_e (s : State) (addr : Word) (dir : Dir) : (s.busFault addr dir).e = s.e := rfl
@[simp] theorem State.busFault_h (s : State) (addr : Word) (dir : Dir) : (s.busFault addr dir).h = s.h := rfl
@[simp] theorem State.busFault_l (s : State) (addr : Word) (dir : Dir) : (s.busFault addr dir).l = s.l := rfl
@[simp] theorem State.busFault_f (s : State) (addr : Word) (dir : Dir) : (s.busFault addr dir).f = s.f := rfl
@[simp] theorem State.busFault_sp (s : State) (addr : Word) (dir : Dir) : (s.busFault addr dir).sp = s.sp := rfl
@[simp] theorem State.busFault_pc (s : State) (addr : Word) (dir : Dir) : (s.busFault addr dir).pc = s.pc := rfl
@[simp] theorem State.busFault_ime (s : State) (addr : Word) (dir : Dir) : (s.busFault addr dir).ime = s.ime := rfl
@[simp] theorem State.busFault_eiDelay (s : State) (addr : Word) (dir : Dir) : (s.busFault addr dir).eiDelay = s.eiDelay := rfl
@[simp] theorem State.busFault_run (s : State) (addr : Word) (dir : Dir) : (s.busFault addr dir).run = .faulted (.busError addr dir) := rfl
@[simp] theorem State.busFault_mem (s : State) (addr : Word) (dir : Dir) : (s.busFault addr dir).mem = s.memAfterCall [] := rfl
@[simp] theorem State.busFault_rejects (s : State) (addr : Word) (dir : Dir) : (s.busFault addr dir).rejects = s.rejects := rfl
@[simp] theorem State.busFault_replies (s : State) (addr : Word) (dir : Dir) : (s.busFault addr dir).replies = s.replies.tail := rfl
@[simp] theorem State.busFault_requests (s : State) (addr : Word) (dir : Dir) : (s.busFault addr dir).requests = s.requests := rfl
@[simp] theorem State.busFault_cfg (s : State) (addr : Word) (dir : Dir) : (s.busFault addr dir).cfg = s.cfg := rfl
@[simp] theorem State.busFault_cycles (s : State) (addr : Word) (dir : Dir) : (s.busFault addr dir).cycles = none := rfl
@[simp] theorem State.busFault_timerCalls (s : State) (addr : Word) (dir : Dir) : (s.busFault addr dir).timerCalls = s.timerCalls := rfl
@[simp] theorem State.busFault_busCalls (s : State) (addr : Word) (dir : Dir) : (s.busFault addr dir).busCalls = s.busCalls := rfl

@[simp] theorem State.afterFetch_a (s : State) (n : Nat) : (s.afterFetch n).a = s.a := by
  induction n with
  | zero => rfl
  | succ n ih => exact ih
@[simp] theorem State.afterFetch_b (s : State) (n : Nat) : (s.afterFetch n).b = s.b := by
  induction n with
  | zero => rfl
  | succ n ih => exact ih
@[simp] theorem State.afterFetch_c (s : State) (n : Nat) : (s.afterFetch n).c = s.c := by
  induction n with
  | zero => rfl
  | succ n ih => exact ih
@[simp] theorem State.afterFetch_d (s : State) (n : Nat) : (s.afterFetch n).d = s.d := by
  induction n with
  | zero => rfl
  | succ n ih => exact ih
@[simp] theorem State.afterFetch_e (s : State) (n : Nat) : (s.afterFetch n).e = s.e := by
  induction n with
  | zero => rfl
  | succ n ih => exact ih
@[simp] theorem State.afterFetch_h (s : State) (n : Nat) : (s.afterFetch n).h = s.h := by
  induction n with
  | zero => rfl
  | succ n ih => exact ih
@[simp] theorem State.afterFetch_l (s : State) (n : Nat) : (s.afterFetch n).l = s.l := by
  induction n with
  | zero => rfl
  | succ n ih => exact ih
@[simp] theorem State.afterFetch_f (s : State) (n : Nat) : (s.afterFetch n).f = s.f := by
  induction n with
  | zero => rfl
  | succ n ih => exact ih
@[simp] theorem State.afterFetch_sp (s : State) (n : Nat) : (s.afterFetch n).sp = s.sp := by
  induction n with
  | zero => rfl
  | succ n ih => exact ih
@[simp] theorem State.afterFetch_pc (s : State) (n : Nat) : (s.afterFetch n).pc = s.pc + BitVec.ofNat 16 n := by
  cases n with
  | zero => exact (BitVec.add_zero s.pc).symm
  | succ n => rfl
@[simp] theorem State.afterFetch_ime (s : State) (n : Nat) : (s.afterFetch n).ime = s.ime := by
  induction n with
  | zero => rfl
  | succ n ih => exact ih
@[simp] theorem State.afterFetch_eiDelay (s : State) (n : Nat) : (s.afterFetch n).eiDelay = s.eiDelay := by
  induction n with
  | zero => rfl
  | succ n ih => exact ih
@[simp] theorem State.afterFetch_run (s : State) (n : Nat) : (s.afterFetch n).run = s.run := by
  induction n with
  | zero => rfl
  | succ n ih => exact ih
@[simp] theorem State.afterFetch_rejects (s : State) (n : Nat) : (s.afterFetch n).rejects = s.rejects := by
  induction n with
  | zero => rfl
  | succ n ih => exact ih
@[simp] theorem State.afterFetch_requests (s : State) (n : Nat) : (s.afterFetch n).requests = s.requests := by
  induction n with
  | zero => rfl
  | succ n ih => exact ih
@[simp] theorem State.afterFetch_cfg (s : State) (n : Nat) : (s.afterFetch n).cfg = s.cfg := by
  induction n with
  | zero => rfl
  | succ n ih => exact ih
@[simp] theorem State.afterFetch_cycles (s : State) (n : Nat) : (s.afterFetch n).cycles = s.cycles := by
  induction n with
  | zero => rfl
  | succ n ih => exact ih
@[simp] theorem State.afterFetch_timerCalls (s : State) (n : Nat) : (s.afterFetch n).timerCalls = s.timerCalls := by
  induction n with
  | zero => rfl
  | succ n ih => exact ih

@[simp] theorem State.deviceRequests_a (s : State) : s.deviceRequests.a = s.a := by
  unfold State.deviceRequests; split <;> rfl
@[simp] theorem State.deviceRequests_b (s : State) : s.deviceRequests.b = s.b := by
  unfold State.deviceRequests; split <;> rfl
@[simp] theorem State.deviceRequests_c (s : State) : s.deviceRequests.c = s.c := by
  unfold State.deviceRequests; split <;> rfl
@[simp] theorem State.deviceRequests_d (s : State) : s.deviceRequests.d = s.d := by
  unfold State.deviceRequests; split <;> rfl
@[simp] theorem State.deviceRequests_e (s : State) : s.deviceRequests.e = s.e := by
  unfold State.deviceRequests; split <;> rfl
@[simp] theorem State.deviceRequests_h (s : State) : s.deviceRequests.h = s.h := by
  unfold State.deviceRequests; split <;> rfl
@[simp] theorem State.deviceRequests_l (s : State) : s.deviceRequests.l = s.l := by
  unfold State.deviceRequests; split <;> rfl
@[simp] theorem State.deviceRequests_f (s : State) : s.deviceRequests.f = s.f := by
  unfold State.deviceRequests; split <;> rfl
@[simp] theorem State.deviceRequests_sp (s : State) : s.deviceRequests.sp = s.sp := by
  unfold State.deviceRequests; split <;> rfl
@[simp] theorem State.deviceRequests_pc (s : State) : s.deviceRequests.pc = s.pc := by
  unfold State.deviceRequests; split <;> rfl
@[simp] theorem State.deviceRequests_ime (s : State) : s.deviceRequests.ime = s.ime := by
  unfold State.deviceRequests; split <;> rfl
@[simp] theorem State.deviceRequests_eiDelay (s : State) : s.deviceRequests.eiDelay = s.eiDelay := by
  unfold State.deviceRequests; split <;> rfl
@[simp] theorem State.deviceRequests_run (s : State) : s.deviceRequests.run = s.run := by
  unfold State.deviceRequests; split <;> rfl
@[simp] theorem State.deviceRequests_rejects (s : State) : s.deviceRequests.rejects = s.rejects := by
  unfold State.deviceRequests; split <;> rfl
@[simp] theorem State.deviceRequests_replies (s : State) : s.deviceRequests.replies = s.replies := by
  unfold State.deviceRequests; split <;> rfl
@[simp] theorem State.deviceRequests_cfg (s : State) : s.deviceRequests.cfg = s.cfg := by
  unfold State.deviceRequests; split <;> rfl
@[simp] theorem State.deviceRequests_cycles (s : State) : s.deviceRequests.cycles = s.cycles := by
  unfold State.deviceRequests; split <;> rfl
@[simp] theorem State.deviceRequests_timerCalls (s : State) : s.deviceRequests.timerCalls = s.timerCalls := by
  unfold State.deviceRequests; split <;> rfl
@[simp] theorem State.deviceRequests_busCalls (s : State) : s.deviceRequests.busCalls = s.busCalls := by
  unfold State.deviceRequests; split <;> rfl

@[simp] theorem State.getR8_setR8_same (s : State) (r : Reg8) (v : Byte) : (s.setR8 r v).getR8 r = v := by
  cases r <;> rfl

theorem State.getR8_setR8_other (s : State) (r q : Reg8) (v : Byte) (hne : q ≠ r) :
    (s.setR8 r v).getR8 q = s.getR8 q := by
  cases r <;> cases q <;> first | rfl | exact absurd rfl hne

end Sys2Proof.Machine
end

