-- ==== Sys2Proof/Laws/Ops.lean ====
section
/-! SUPPORT. How the pseudocode operations evaluate, and for each shared operation one lemma that says everything it can do. -/

namespace Sys2Proof.Machine

/-- A sequence stops at the first fault, in the state reached (20_memory.md R59). -/
theorem op_bind {α β : Type} (x : Op α) (f : α → Op β) (s : State) :
    (x >>= f) s = match x s with
      | .ok v t => f v t
      | .error e t => .error e t := by
  show EStateM.bind x f s = _
  unfold EStateM.bind
  cases x s <;> rfl

theorem op_bind_ok {α β : Type} {x : Op α} {f : α → Op β} {s t : State} {v : α} (h : x s = .ok v t) :
    (x >>= f) s = f v t := by rw [op_bind, h]

theorem op_bind_error {α β : Type} {x : Op α} {f : α → Op β} {s t : State} {e : Fault} (h : x s = .error e t) :
    (x >>= f) s = .error e t := by rw [op_bind, h]

@[simp] theorem op_pure {α : Type} (v : α) (s : State) : (pure v : Op α) s = .ok v s := rfl

@[simp] theorem getState_run (s : State) : getState s = .ok s s := rfl

@[simp] theorem updateState_run (g : State → State) (s : State) : updateState g s = .ok () (g s) := rfl

@[simp] theorem setFlags_run (f : Flags) (s : State) : setFlags f s = .ok () { s with f := f } := rfl

@[simp] theorem raise_run {α : Type} (f : Fault) (s : State) : (raise f : Op α) s = .error f s := rfl

/-- `memRead`: the bus's answer with one more observable call, or a bus fault with the core as it was. -/
theorem memRead_cases (addr : Word) (s : State) :
    (s.Readable addr ∧ memRead addr s = .ok (s.readValue addr) (s.didRead addr)) ∨
    (¬ s.Readable addr ∧ memRead addr s = .error (.busError addr .read) s.rejected) := by
  by_cases h : s.Readable addr
  · exact .inl ⟨h, if_pos h⟩
  · exact .inr ⟨h, if_neg h⟩

/-- `memWrite`: one more observable call, or a bus fault with the core as it was. -/
theorem memWrite_cases (addr : Word) (v : Byte) (s : State) :
    (s.Writable addr ∧ memWrite addr v s = .ok () (s.didWrite addr v)) ∨
    (¬ s.Writable addr ∧ memWrite addr v s = .error (.busError addr .write) s.rejected) := by
  by_cases h : s.Writable addr
  · exact .inl ⟨h, if_pos h⟩
  · exact .inr ⟨h, if_neg h⟩

/-- A bus whose next reply is the memory's: reads answer from memory, a write stores, only the rejected sites fail
(20_memory.md R64). -/
theorem State.reply_asMemory {s : State} (h : s.reply = .asMemory) (addr : Word) (stored : List (Word × Byte)) :
    s.readValue addr = s.byteAt addr ∧ s.memAfterCall stored = s.mem.storeAll stored ∧
    ∀ site, s.accepts site = true ↔ site ∉ s.rejects := by
  unfold State.readValue State.memAfterCall State.accepts
  rw [h]
  simp

/-- A bus that acts as the memory does so at the next call and after it. -/
theorem State.BusIsMemory.next {s : State} (h : s.BusIsMemory) :
    s.reply = .asMemory ∧ ∀ r ∈ s.replies.tail, r = .asMemory := by
  unfold State.reply
  cases e : s.replies with
  | nil => exact ⟨rfl, by simp⟩
  | cons r rest =>
    unfold State.BusIsMemory at h
    rw [e] at h
    exact ⟨h r (List.mem_cons_self ..), fun q hq => h q (List.mem_cons_of_mem _ hq)⟩

theorem memRead_ok {addr : Word} {s : State} (h : s.Readable addr) :
    memRead addr s = .ok (s.readValue addr) (s.didRead addr) := by
  rcases memRead_cases addr s with ⟨-, e⟩ | ⟨n, -⟩
  · exact e
  · exact absurd h n

theorem memRead_rejected {addr : Word} {s : State} (h : ¬ s.Readable addr) :
    memRead addr s = .error (.busError addr .read) s.rejected := by
  rcases memRead_cases addr s with ⟨n, -⟩ | ⟨-, e⟩
  · exact absurd n h
  · exact e

theorem memWrite_ok {addr : Word} {v : Byte} {s : State} (h : s.Writable addr) :
    memWrite addr v s = .ok () (s.didWrite addr v) := by
  rcases memWrite_cases addr v s with ⟨-, e⟩ | ⟨n, -⟩
  · exact e
  · exact absurd h n

theorem memWrite_rejected {addr : Word} {v : Byte} {s : State} (h : ¬ s.Writable addr) :
    memWrite addr v s = .error (.busError addr .write) s.rejected := by
  rcases memWrite_cases addr v s with ⟨n, -⟩ | ⟨-, e⟩
  · exact absurd n h
  · exact e

/-- `fetch8`: the byte at PC and PC moved past it, or a bus fault with PC unchanged. -/
theorem fetch8_cases (s : State) :
    (s.Readable s.pc ∧ fetch8 s = .ok (s.readValue s.pc) { s.didRead s.pc with pc := s.pc + 1 }) ∨
    (¬ s.Readable s.pc ∧ fetch8 s = .error (.busError s.pc .read) s.rejected) := by
  rcases memRead_cases s.pc s with ⟨h, e⟩ | ⟨h, e⟩
  · exact .inl ⟨h, by simp only [fetch8, op_bind, getState_run, e, updateState_run, op_pure]; rfl⟩
  · exact .inr ⟨h, by simp only [fetch8, op_bind, getState_run, e]⟩

/-- `pushByte`: SP decremented, and the byte written there or a bus fault. -/
theorem pushByte_cases (v : Byte) (s : State) :
    (s.Writable (s.sp - 1) ∧
      pushByte v s = .ok () { s.didWrite (s.sp - 1) v with sp := s.sp - 1 }) ∨
    (¬ s.Writable (s.sp - 1) ∧
      pushByte v s = .error (.busError (s.sp - 1) .write) { s.rejected with sp := s.sp - 1 }) := by
  rcases memWrite_cases (s.sp - 1) v { s with sp := s.sp - 1 } with ⟨h, e⟩ | ⟨h, e⟩
  · exact .inl ⟨h, by simp only [pushByte, op_bind, updateState_run, getState_run, e]; rfl⟩
  · exact .inr ⟨h, by simp only [pushByte, op_bind, updateState_run, getState_run, e]; rfl⟩

/-- `popByte`: the byte at SP and SP incremented, or a bus fault with SP unchanged. -/
theorem popByte_cases (s : State) :
    (s.Readable s.sp ∧ popByte s = .ok (s.readValue s.sp) { s.didRead s.sp with sp := s.sp + 1 }) ∨
    (¬ s.Readable s.sp ∧ popByte s = .error (.busError s.sp .read) s.rejected) := by
  rcases memRead_cases s.sp s with ⟨h, e⟩ | ⟨h, e⟩
  · exact .inl ⟨h, by simp only [popByte, op_bind, getState_run, e, updateState_run, op_pure]; rfl⟩
  · exact .inr ⟨h, by simp only [popByte, op_bind, getState_run, e]⟩

/-- `push16`: both bytes stored, or a bus fault at the byte that was rejected, with what was done before it. -/
theorem push16_cases (v : Word) (s : State) :
    (s.CanPush v ∧ push16 v s = .ok () (s.pushed v)) ∨
    (¬ s.CanPush v ∧ ∃ f t, push16 v s = .error f t ∧ { t.faultedBy f with cycles := none } = s.pushFault v) := by
  have e : s.sp - 1 - 1 = s.sp - 2 := by rw [BitVec.sub_sub]; rfl
  unfold push16
  rcases pushByte_cases (hiByte v) s with ⟨h1, e1⟩ | ⟨h1, e1⟩
  · rw [op_bind_ok e1]
    rcases pushByte_cases (loByte v) { s.didWrite (s.sp - 1) (hiByte v) with sp := s.sp - 1 } with
      ⟨h2, e2⟩ | ⟨h2, e2⟩
    · refine .inl ⟨⟨h1, ?_⟩, ?_⟩
      · rw [← e]; exact h2
      · rw [e2]; simp only [e]; rfl
    · refine .inr ⟨fun h => h2 ?_, _, _, e2, ?_⟩
      · simp only [e]; exact h.2
      · rw [State.pushFault, if_pos h1]; simp only [e]; rfl
  · refine .inr ⟨fun h => h1 h.1, _, _, op_bind_error e1, ?_⟩
    rw [State.pushFault, if_neg h1]; rfl

/-- `pop16`: the word at SP, or a bus fault at the byte that was rejected, with what was done before it. -/
theorem pop16_cases (s : State) :
    (s.CanPop ∧ pop16 s = .ok s.topWord s.popped) ∨
    (¬ s.CanPop ∧ ∃ f t, pop16 s = .error f t ∧ { t.faultedBy f with cycles := none } = s.popFault) := by
  have e : s.sp + 1 + 1 = s.sp + 2 := by rw [BitVec.add_assoc]; rfl
  unfold pop16
  rcases popByte_cases s with ⟨h1, e1⟩ | ⟨h1, e1⟩
  · rw [op_bind_ok e1]
    rcases popByte_cases { s.didRead s.sp with sp := s.sp + 1 } with ⟨h2, e2⟩ | ⟨h2, e2⟩
    · refine .inl ⟨⟨h1, h2⟩, ?_⟩
      rw [op_bind_ok e2]; simp only [e]; rfl
    · refine .inr ⟨fun h => h2 h.2, _, _, op_bind_error e2, ?_⟩
      rw [State.popFault, if_pos h1]; rfl
  · refine .inr ⟨fun h => h1 h.1, _, _, op_bind_error e1, ?_⟩
    rw [State.popFault, if_neg h1]; rfl

/-- An even width never asserts. -/
theorem halfCarry_even (op : KernelOp) {w : Nat} (hw : w % 2 = 0) (left : Nat) (rights : List Nat) (s : State) :
    halfCarry op w left rights s = .ok (carryOccurs op (w / 2) left rights) s := by
  unfold halfCarry
  rw [if_neg (by omega)]
  rfl

/-- A handler that ends reports its count. -/
theorem handler_ok {op : Op Nat} {s t : State} {n : Nat} (h : op s = .ok n t) :
    handler op s = .next (t.returns n) := by unfold handler; rw [h]; rfl

/-- A handler that faults reports nothing and leaves the core Faulted. -/
theorem handler_error {op : Op Nat} {s t : State} {f : Fault} (h : op s = .error f t) :
    handler op s = .next { t.faultedBy f with cycles := none } := by unfold handler; rw [h]

/-- A handler always gives a next state: a count with the state reached, or a fault recorded in the run state. -/
theorem handler_cases (op : Op Nat) (s : State) :
    (∃ n t, op s = .ok n t ∧ handler op s = .next (t.returns n)) ∨
    (∃ f t, op s = .error f t ∧ handler op s = .next { t.faultedBy f with cycles := none }) := by
  cases h : op s with
  | ok n t => exact .inl ⟨n, t, rfl, handler_ok h⟩
  | error f t => exact .inr ⟨f, t, rfl, handler_error h⟩

/-- A handler whose first operation ends goes on from the state reached. -/
theorem handler_bind_ok {α : Type} {x : Op α} {f : α → Op Nat} {s t : State} {v : α} (h : x s = .ok v t) :
    handler (x >>= f) s = handler (f v) t := by unfold handler; rw [op_bind_ok h]

@[simp] theorem handler_getState (f : State → Op Nat) (s : State) :
    handler (getState >>= f) s = handler (f s) s := rfl

@[simp] theorem handler_updateState (g : State → State) (f : Unit → Op Nat) (s : State) :
    handler (updateState g >>= f) s = handler (f ()) (g s) := rfl

@[simp] theorem handler_pure (n : Nat) (s : State) : handler (pure n) s = .next (s.returns n) := rfl

theorem handler_memRead_ok {addr : Word} {s : State} (f : Byte → Op Nat) (h : s.Readable addr) :
    handler (memRead addr >>= f) s = handler (f (s.readValue addr)) (s.didRead addr) :=
  handler_bind_ok (memRead_ok h)

theorem handler_memRead_rejected {addr : Word} {s : State} (f : Byte → Op Nat) (h : ¬ s.Readable addr) :
    handler (memRead addr >>= f) s = .next (s.busFault addr .read) := by
  rw [handler_error (op_bind_error (memRead_rejected h))]; rfl

theorem handler_memWrite_ok {addr : Word} {v : Byte} {s : State} (f : Unit → Op Nat) (h : s.Writable addr) :
    handler (memWrite addr v >>= f) s = handler (f ()) (s.didWrite addr v) :=
  handler_bind_ok (memWrite_ok h)

theorem handler_memWrite_rejected {addr : Word} {v : Byte} {s : State} (f : Unit → Op Nat) (h : ¬ s.Writable addr) :
    handler (memWrite addr v >>= f) s = .next (s.busFault addr .write) := by
  rw [handler_error (op_bind_error (memWrite_rejected h))]; rfl

/-- A settled operation always gives a next state. -/
theorem settle_cases {α : Type} (op : Op α) (s : State) :
    (∃ v t, op s = .ok v t ∧ settle op s = .next t) ∨
    (∃ f t, op s = .error f t ∧ settle op s = .next (t.faultedBy f)) := by
  unfold settle
  cases h : op s with
  | ok v t => exact .inl ⟨v, t, rfl, rfl⟩
  | error f t => exact .inr ⟨f, t, rfl, rfl⟩

theorem settle_ok {α : Type} {op : Op α} {s t : State} {v : α} (h : op s = .ok v t) : settle op s = .next t := by
  unfold settle; rw [h]

theorem settle_error {α : Type} {op : Op α} {s t : State} {f : Fault} (h : op s = .error f t) :
    settle op s = .next (t.faultedBy f) := by unfold settle; rw [h]

/-- A settled operation whose first part ends goes on from the state reached. -/
theorem settle_bind_ok {α β : Type} {x : Op α} {f : α → Op β} {s t : State} {v : α} (h : x s = .ok v t) :
    settle (x >>= f) s = settle (f v) t := by unfold settle; rw [op_bind_ok h]

/-- `Timer.inc`: what `State.timed` says (60_exceptions.md R288). -/
@[simp] theorem timerInc_run (n : Nat) (s : State) : timerInc n s = .ok () (s.timed n) := rfl

/-- The device side of a Timer call: IF and the queue, or nothing when no request is queued. -/
theorem deviceRequests_cases (s : State) :
    (s.requests = [] ∧ s.deviceRequests = s) ∨
    (∃ bits rest, s.requests = bits :: rest ∧
      s.deviceRequests =
        { s.storeByte s.cfg.ifAddr (s.byteAt s.cfg.ifAddr ||| bits) with requests := rest }) := by
  unfold State.deviceRequests
  cases h : s.requests with
  | nil => exact .inl ⟨rfl, rfl⟩
  | cons bits rest => exact .inr ⟨bits, rest, rfl, rfl⟩

/-- A Timer call touches memory, the queue of requests and the list of calls, nothing else (60_exceptions.md R288). -/
theorem State.timed_eq (s : State) (n : Nat) :
    ∃ (m : Memory) (rest : List Byte),
      s.timed n = { s with mem := m, requests := rest, timerCalls := s.timerCalls ++ [n] } := by
  rcases deviceRequests_cases ({ s with timerCalls := s.timerCalls ++ [n] } : State) with
    ⟨-, e⟩ | ⟨bits, rest, -, e⟩ <;> exact ⟨_, _, e⟩

end Sys2Proof.Machine
end

