-- ==== Sys2Proof/Laws/Keeps.lean ====
section
/-! SUPPORT. A relation between the state an operation starts in and every state it can end in, with or without a fault, and
a condition on the faults it can end in. Both compose along sequences, so a frame, an invariant or a bound on the faults of
an instruction follows from its parts. -/

namespace Sys2Proof.Machine

/-- Every state the operation can end in when it starts in `s` is related to `s`, and every fault meets `E`. -/
def OpFrom {α : Type} (R : State → State → Prop) (E : Fault → Prop) (s : State) (op : Op α) : Prop :=
  (∀ v t, op s = .ok v t → R s t) ∧ ∀ f t, op s = .error f t → R s t ∧ E f

/-- A relation that holds of equal states and composes. -/
structure Composes (R : State → State → Prop) : Prop where
  refl : ∀ s, R s s
  trans : ∀ {s t u}, R s t → R t u → R s u

variable {α β : Type} {R : State → State → Prop} {E : Fault → Prop} {s : State}

theorem from_pure (h : R s s) (v : α) : OpFrom R E s (pure v : Op α) :=
  ⟨fun _ _ e => by cases e; exact h, fun _ _ e => by cases e⟩

theorem from_raise (h : R s s) {f : Fault} (hf : E f) : OpFrom R E s (raise f : Op α) :=
  ⟨fun _ _ e => (by cases e), fun _ _ e => by cases e; exact ⟨h, hf⟩⟩

theorem from_updateState {g : State → State} (h : R s (g s)) : OpFrom R E s (updateState g) :=
  ⟨fun _ _ e => by cases e; exact h, fun _ _ e => by cases e⟩

theorem from_setFlags {f : Flags} (h : R s { s with f := f }) : OpFrom R E s (setFlags f) := from_updateState h

/-- Reading the state is no effect: the rest starts where it stands. -/
theorem from_getState {f : State → Op α} (h : OpFrom R E s (f s)) : OpFrom R E s (getState >>= f) := h

theorem from_bind (hR : Composes R) {x : Op α} {f : α → Op β} (hx : OpFrom R E s x)
    (hf : ∀ v t, x s = .ok v t → R s t → OpFrom R E t (f v)) : OpFrom R E s (x >>= f) := by
  unfold OpFrom
  rw [op_bind]
  cases h : x s with
  | ok v t =>
    have k := hf v t h (hx.1 v t h)
    exact ⟨fun w u e => hR.trans (hx.1 v t h) (k.1 w u e),
      fun w u e => ⟨hR.trans (hx.1 v t h) (k.2 w u e).1, (k.2 w u e).2⟩⟩
  | error e t => exact ⟨fun _ _ h' => (by cases h'), fun _ _ h' => by cases h'; exact hx.2 e t h⟩

theorem from_memRead (addr : Word) (h0 : R s s.rejected) (h : R s (s.didRead addr))
    (hf : ¬ s.Readable addr → E (.busError addr .read)) : OpFrom R E s (memRead addr) := by
  unfold OpFrom
  rcases memRead_cases addr s with ⟨-, e⟩ | ⟨n, e⟩ <;> rw [e]
  · exact ⟨fun _ _ h' => by cases h'; exact h, fun _ _ h' => by cases h'⟩
  · exact ⟨fun _ _ h' => (by cases h'), fun _ _ h' => by cases h'; exact ⟨h0, hf n⟩⟩

theorem from_memWrite (addr : Word) (v : Byte) (h0 : R s s.rejected) (h : R s (s.didWrite addr v))
    (hf : ¬ s.Writable addr → E (.busError addr .write)) : OpFrom R E s (memWrite addr v) := by
  unfold OpFrom
  rcases memWrite_cases addr v s with ⟨-, e⟩ | ⟨n, e⟩ <;> rw [e]
  · exact ⟨fun _ _ h' => by cases h'; exact h, fun _ _ h' => by cases h'⟩
  · exact ⟨fun _ _ h' => (by cases h'), fun _ _ h' => by cases h'; exact ⟨h0, hf n⟩⟩

/-- The half-carry of an even width changes no state and raises no fault. -/
theorem from_halfCarry (h : R s s) (op : KernelOp) {w : Nat} (hw : w % 2 = 0) (left : Nat) (rights : List Nat) :
    OpFrom R E s (halfCarry op w left rights) := by
  unfold OpFrom
  rw [halfCarry_even op hw]
  exact from_pure h _

/-- What a handler does to the state, given what its operation does, what reporting a count does and what a fault does. -/
theorem handler_keeps (hR : Composes R) {op : Op Nat} {s' : State} (h : OpFrom R E s op)
    (hret : ∀ (t : State) (n : Nat), R t (t.returns n))
    (hfault : ∀ (t : State) (f : Fault), E f → R t { t.faultedBy f with cycles := none })
    (e : handler op s = .next s') : R s s' := by
  rcases handler_cases op s with ⟨n, t, ho, hh⟩ | ⟨f, t, ho, hh⟩ <;> rw [hh] at e <;> cases e
  · exact hR.trans (h.1 n t ho) (hret t n)
  · exact hR.trans (h.2 f t ho).1 (hfault t f (h.2 f t ho).2)

/-- The same of a settled operation. -/
theorem settle_keeps (hR : Composes R) {op : Op α} {s' : State} (h : OpFrom R E s op)
    (hfault : ∀ (t : State) (f : Fault), E f → R t (t.faultedBy f)) (e : settle op s = .next s') : R s s' := by
  rcases settle_cases op s with ⟨v, t, ho, hh⟩ | ⟨f, t, ho, hh⟩ <;> rw [hh, Host.Outcome.next.injEq] at e <;> subst e
  · exact h.1 v _ ho
  · exact hR.trans (h.2 f t ho).1 (hfault t f (h.2 f t ho).2)

end Sys2Proof.Machine
end

