-- ==== Sys2Proof/Laws/Kernel.lean ====
section
/-! SUPPORT. The kernel's folds on one operand and on an operand with a carry-in, without the fold (00_scope.md R10, R11). -/

namespace Sys2Proof.Machine

theorem apply_one (op : KernelOp) (w left r : Nat) :
    apply op w left [r] = applyStep op w (left % 2 ^ w) (r % 2 ^ w) := rfl

theorem apply_two (op : KernelOp) (w left r k : Nat) :
    apply op w left [r, k] = applyStep op w (applyStep op w (left % 2 ^ w) (r % 2 ^ w)) (k % 2 ^ w) := rfl

/-- One exact step of an addition carries when it reaches 2^w (00_scope.md R11). -/
theorem carryOccurs_add_one (w left r : Nat) :
    carryOccurs .add w left [r] = decide (2 ^ w ≤ left % 2 ^ w + r % 2 ^ w) := by
  simp [carryOccurs, carryFold, carryStep]

/-- One exact step of a subtraction borrows when it is negative (00_scope.md R11). -/
theorem carryOccurs_sub_one (w left r : Nat) :
    carryOccurs .sub w left [r] = decide (left % 2 ^ w < r % 2 ^ w) := by
  simp [carryOccurs, carryFold, carryStep]

/-- Two steps carry when either does: the exact sum of three operands reaches 2^w, for a carry-in below 2^w
(00_scope.md R11). -/
theorem carryOccurs_add_two (w left r k : Nat) (hk : k ≤ 1) (hw : 0 < w) :
    carryOccurs .add w left [r, k] = decide (2 ^ w ≤ left % 2 ^ w + r % 2 ^ w + k) := by
  have h1 : 2 ≤ 2 ^ w := Nat.pow_le_pow_right (n := 2) (by omega) hw
  have hkw : k % 2 ^ w = k := Nat.mod_eq_of_lt (by omega)
  have hl := Nat.mod_lt left (show 0 < 2 ^ w by omega)
  have hr := Nat.mod_lt r (show 0 < 2 ^ w by omega)
  refine Bool.eq_iff_iff.2 ?_
  simp only [carryOccurs, carryFold, carryStep, hkw, Bool.or_false, Bool.or_eq_true, decide_eq_true_eq]
  simp only [applyStep]
  generalize left % 2 ^ w = x at *
  generalize r % 2 ^ w = y at *
  by_cases h : 2 ^ w ≤ x + y
  · simp only [h, true_or, true_iff]; omega
  · rw [Nat.mod_eq_of_lt (by omega)]; omega

/-- Two steps borrow when either does (00_scope.md R11). -/
theorem carryOccurs_sub_two (w left r k : Nat) (hk : k ≤ 1) (hw : 0 < w) :
    carryOccurs .sub w left [r, k] = decide (left % 2 ^ w < r % 2 ^ w + k) := by
  have h1 : 2 ≤ 2 ^ w := Nat.pow_le_pow_right (n := 2) (by omega) hw
  have hkw : k % 2 ^ w = k := Nat.mod_eq_of_lt (by omega)
  have hl := Nat.mod_lt left (show 0 < 2 ^ w by omega)
  have hr := Nat.mod_lt r (show 0 < 2 ^ w by omega)
  refine Bool.eq_iff_iff.2 ?_
  simp only [carryOccurs, carryFold, carryStep, hkw, Bool.or_false, Bool.or_eq_true, decide_eq_true_eq]
  simp only [applyStep]
  generalize left % 2 ^ w = x at *
  generalize r % 2 ^ w = y at *
  by_cases h : x < y
  · simp only [h, true_or, true_iff]; omega
  · have e : x + 2 ^ w - y = (x - y) + 2 ^ w := by omega
    rw [e, Nat.add_mod_right, Nat.mod_eq_of_lt (by omega)]; omega

/-- `Apply(Add, 8, a, n)` is the byte sum. -/
theorem apply8_add (a : Byte) (n : Nat) : apply8 .add a [n] = a + BitVec.ofNat 8 n := by
  refine BitVec.eq_of_toNat_eq ?_
  simp [apply8, apply_one, applyStep]

/-- `Apply(Sub, 8, a, n)` is the byte difference. -/
theorem apply8_sub (a : Byte) (n : Nat) : apply8 .sub a [n] = a - BitVec.ofNat 8 n := by
  refine BitVec.eq_of_toNat_eq ?_
  simp [apply8, apply_one, applyStep, BitVec.toNat_sub]
  have := a.isLt; omega

/-- `Apply(Add, 16, a, n)` is the word sum. -/
theorem apply16_add (a : Word) (n : Nat) : apply16 .add a [n] = a + BitVec.ofNat 16 n := by
  refine BitVec.eq_of_toNat_eq ?_
  simp [apply16, apply_one, applyStep]

/-- `Apply(Sub, 16, a, n)` is the word difference. -/
theorem apply16_sub (a : Word) (n : Nat) : apply16 .sub a [n] = a - BitVec.ofNat 16 n := by
  refine BitVec.eq_of_toNat_eq ?_
  simp [apply16, apply_one, applyStep, BitVec.toNat_sub]
  have := a.isLt; omega

/-- The logic operations of the kernel at width 8. -/
theorem apply8_and (a b : Byte) : apply8 .and a [b.toNat] = a &&& b := by
  refine BitVec.eq_of_toNat_eq ?_
  simp only [apply8, apply_one, applyStep, BitVec.toNat_ofNat, Nat.mod_eq_of_lt a.isLt, Nat.mod_eq_of_lt b.isLt,
    ← BitVec.toNat_and, Nat.mod_eq_of_lt (a &&& b).isLt]

theorem apply8_xor (a b : Byte) : apply8 .xor a [b.toNat] = a ^^^ b := by
  refine BitVec.eq_of_toNat_eq ?_
  simp only [apply8, apply_one, applyStep, BitVec.toNat_ofNat, Nat.mod_eq_of_lt a.isLt, Nat.mod_eq_of_lt b.isLt,
    ← BitVec.toNat_xor, Nat.mod_eq_of_lt (a ^^^ b).isLt]

theorem apply8_or (a b : Byte) : apply8 .or a [b.toNat] = a ||| b := by
  refine BitVec.eq_of_toNat_eq ?_
  simp only [apply8, apply_one, applyStep, BitVec.toNat_ofNat, Nat.mod_eq_of_lt a.isLt, Nat.mod_eq_of_lt b.isLt,
    ← BitVec.toNat_or, Nat.mod_eq_of_lt (a ||| b).isLt]

end Sys2Proof.Machine
end

