-- ==== Sys2Proof/Laws/Memory.lean ====
section
/-! SUPPORT. Every memory operation keeps the canonical form, and the reset memory has it. -/

namespace Sys2Proof.Machine

/-- The entries of a written memory come from the old memory or are the written one. -/
theorem Memory.mem_write {m : Memory} {addr : Nat} {v : Byte} {cell : Host.Cell}
    (h : cell ∈ m.write addr v) : cell ∈ m ∨ (cell = (addr, v) ∧ v ≠ Memory.blank) := by
  induction m with
  | nil =>
    unfold Memory.write at h
    split at h
    · simp at h
    · next hv => exact .inr ⟨by simpa using h, hv⟩
  | cons top rest ih =>
    obtain ⟨k, w⟩ := top
    unfold Memory.write at h
    split at h
    · split at h
      · exact .inl h
      · next hv =>
        rcases List.mem_cons.1 h with h | h
        · exact .inr ⟨h, hv⟩
        · exact .inl h
    · split at h
      · next hk =>
        split at h
        · exact .inl (List.mem_cons_of_mem _ h)
        · next hv =>
          rcases List.mem_cons.1 h with h | h
          · exact .inr ⟨by rw [h, hk], hv⟩
          · exact .inl (List.mem_cons_of_mem _ h)
      · rcases List.mem_cons.1 h with h | h
        · exact .inl (h ▸ List.mem_cons_self ..)
        · rcases ih h with h | h
          · exact .inl (List.mem_cons_of_mem _ h)
          · exact .inr h

/-- A write keeps the canonical form. -/
theorem Memory.write_wf {m : Memory} {addr : Nat} {v : Byte} (hm : m.wf) (ha : addr < 65536) :
    (m.write addr v).wf := by
  refine ⟨?_, fun cell hc => ?_⟩
  · induction m with
    | nil => unfold Memory.write; split <;> simp
    | cons top rest ih =>
      obtain ⟨k, w⟩ := top
      have hrest : Memory.wf rest :=
        ⟨(List.pairwise_cons.1 hm.1).2, fun cell hc => hm.2 cell (List.mem_cons_of_mem _ hc)⟩
      have hk : ∀ cell ∈ rest, k < cell.1 := (List.pairwise_cons.1 hm.1).1
      unfold Memory.write
      split
      · next hlt =>
        split
        · exact hm.1
        · refine List.pairwise_cons.2 ⟨fun cell hc => ?_, hm.1⟩
          rcases List.mem_cons.1 hc with h | h
          · rw [h]; exact hlt
          · exact lt_trans hlt (hk cell h)
      · next hnlt =>
        split
        · split
          · exact hrest.1
          · exact List.pairwise_cons.2 ⟨hk, hrest.1⟩
        · next hne =>
          refine List.pairwise_cons.2 ⟨fun cell hc => ?_, ih hrest⟩
          rcases Memory.mem_write hc with h | ⟨h, -⟩
          · exact hk cell h
          · rw [h]; simp only; omega
  · rcases Memory.mem_write hc with h | ⟨h, hv⟩
    · exact hm.2 cell h
    · rw [h]; exact ⟨ha, hv⟩

/-- Storing a list of bytes keeps the canonical form. -/
theorem Memory.storeAll_wf {m : Memory} (h : m.wf) (cells : List (Word × Byte)) : (m.storeAll cells).wf := by
  induction cells generalizing m with
  | nil => exact h
  | cons cell rest ih => exact ih (Memory.write_wf h cell.1.isLt)

/-- A store keeps the canonical form of a state's memory. -/
theorem State.storeByte_wf {s : State} (h : s.mem.wf) (addr : Word) (v : Byte) : (s.storeByte addr v).mem.wf :=
  Memory.write_wf h addr.isLt

/-- The reset memory is canonical. -/
theorem State.reset_mem_wf : State.reset.mem.wf := by decide

end Sys2Proof.Machine
end

