-- ==== Sys2Proof/Laws/Step.lean ====
section
/-! SUPPORT. What a step can do, said once: the operation each arm of the dispatch runs, what fetching an instruction can do,
and the cases of an iteration. -/

namespace Sys2Proof.Machine

/-- Every arm of the dispatch is a handler. -/
theorem exec_handler : ∀ i : Instr, ∃ op : Op Nat, ∀ s, exec i s = handler op s :=
  Instr.byFamily
    (fun x y => ⟨ldRR x y, exec_ldRR x y⟩) (fun x => ⟨ldRMemHl x, exec_ldRMemHl x⟩)
    (fun x => ⟨ldMemHlR x, exec_ldMemHlR x⟩) (fun x y => ⟨ldRD8 x y, exec_ldRD8 x y⟩)
    (fun x y => ⟨ldRrD16 x y, exec_ldRrD16 x y⟩) (fun x => ⟨incR x, exec_incR x⟩) (fun x => ⟨incRr x, exec_incRr x⟩)
    (fun x => ⟨decR x, exec_decR x⟩) (fun x => ⟨decRr x, exec_decRr x⟩) (fun x y => ⟨aluR x y, exec_aluR x y⟩)
    (fun x => ⟨aluMemHl x, exec_aluMemHl x⟩) (fun x y => ⟨aluD8 x y, exec_aluD8 x y⟩)
    (fun x => ⟨addHlRr x, exec_addHlRr x⟩) (fun x y => ⟨prefixed (rotR x y), exec_rotR x y⟩)
    (fun x => ⟨prefixed (rotMemHl x), exec_rotMemHl x⟩) (fun i y => ⟨prefixed (bitR i y), exec_bitR i y⟩)
    (fun i => ⟨prefixed (bitMemHl i), exec_bitMemHl i⟩) (fun i y => ⟨prefixed (resR i y), exec_resR i y⟩)
    (fun i => ⟨prefixed (resMemHl i), exec_resMemHl i⟩) (fun i y => ⟨prefixed (setR i y), exec_setR i y⟩)
    (fun i => ⟨prefixed (setMemHl i), exec_setMemHl i⟩) (fun x y => ⟨jpCcA16 x y, exec_jpCcA16 x y⟩)
    (fun x y => ⟨jrCcE8 x y, exec_jrCcE8 x y⟩) (fun x y => ⟨callCcA16 x y, exec_callCcA16 x y⟩)
    (fun x => ⟨retCc x, exec_retCc x⟩) (fun i => ⟨rst i, exec_rst i⟩) (fun x => ⟨pushRr x, exec_pushRr x⟩)
    (fun x => ⟨popRr x, exec_popRr x⟩) (fun x => ⟨ldAMemHlStep (if x then 1#16 else -1#16), exec_ldAMemHlStep x⟩)
    (fun x => ⟨ldMemHlStepA (if x then 1#16 else -1#16), exec_ldMemHlStepA x⟩)
    (fun i => ⟨illegalOpcode (illegalOpcodes.get i), exec_illegal i⟩) ⟨nop, fun _ => rfl⟩ ⟨ldMemRrA .bc, fun _ => rfl⟩
    ⟨rotA .rlc, fun _ => rfl⟩ (fun a => ⟨ldMemA16Sp a, fun _ => rfl⟩) ⟨ldAMemRr .bc, fun _ => rfl⟩
    ⟨rotA .rrc, fun _ => rfl⟩ ⟨stop, fun _ => rfl⟩ ⟨ldMemRrA .de, fun _ => rfl⟩ ⟨rotA .rl, fun _ => rfl⟩
    (fun a => ⟨jrE8 a, fun _ => rfl⟩) ⟨ldAMemRr .de, fun _ => rfl⟩ ⟨rotA .rr, fun _ => rfl⟩ ⟨daa, fun _ => rfl⟩
    ⟨cpl, fun _ => rfl⟩ ⟨incMemHl, fun _ => rfl⟩ ⟨decMemHl, fun _ => rfl⟩ (fun a => ⟨ldMemHlD8 a, fun _ => rfl⟩)
    ⟨scf, fun _ => rfl⟩ ⟨ccf, fun _ => rfl⟩ ⟨halt, fun _ => rfl⟩ (fun a => ⟨jpA16 a, fun _ => rfl⟩)
    ⟨ret, fun _ => rfl⟩ (fun a => ⟨prefixed (cbHandler a), fun _ => rfl⟩) (fun a => ⟨callA16 a, fun _ => rfl⟩)
    ⟨reti, fun _ => rfl⟩ (fun a => ⟨ldhMemA8A a, fun _ => rfl⟩) ⟨ldMemCA, fun _ => rfl⟩
    (fun a => ⟨addSpE8 a, fun _ => rfl⟩) ⟨jpHl, fun _ => rfl⟩ (fun a => ⟨ldMemA16A a, fun _ => rfl⟩)
    (fun a => ⟨ldhAMemA8 a, fun _ => rfl⟩) ⟨ldAMemC, fun _ => rfl⟩ ⟨di, fun _ => rfl⟩
    (fun a => ⟨ldHlSpE8 a, fun _ => rfl⟩) ⟨ldSpHl, fun _ => rfl⟩ (fun a => ⟨ldAMemA16 a, fun _ => rfl⟩)
    ⟨ei, fun _ => rfl⟩

/-- `fetch8` is one step of `afterFetch`, or a bus fault at PC. -/
theorem fetch8_afterFetch (s : State) (k : Nat) :
    ((s.afterFetch k).Readable (s.pc + BitVec.ofNat 16 k) ∧
      fetch8 (s.afterFetch k) = .ok ((s.afterFetch k).readValue (s.pc + BitVec.ofNat 16 k)) (s.afterFetch (k + 1))) ∨
    (¬ (s.afterFetch k).Readable (s.pc + BitVec.ofNat 16 k) ∧
      fetch8 (s.afterFetch k) = .error (.busError (s.pc + BitVec.ofNat 16 k) .read) (s.afterFetch k).rejected) := by
  have e : s.pc + BitVec.ofNat 16 k + 1 = s.pc + BitVec.ofNat 16 (k + 1) := by
    rw [BitVec.ofNat_add, ← BitVec.add_assoc]; rfl
  rcases fetch8_cases (s.afterFetch k) with h | h <;> rw [State.afterFetch_pc] at h
  · exact .inl ⟨h.1, by rw [h.2, e]; rfl⟩
  · exact .inr h

theorem operandFetches_le (op : Byte) : operandFetches op ≤ 2 := by
  unfold operandFetches instrLength
  split
  · decide
  · split
    · decide
    · split <;> decide

/-- What fetching an instruction does: it decodes the bytes read at PC and the addresses after it, one accepted read each,
or ends at the first read the bus rejects (30_encoding.md R77, R78). -/
theorem fetchInstr_cases (s : State) :
    let op := s.readValue s.pc
    let b1 := (s.afterFetch 1).readValue (s.pc + 1)
    let b2 := (s.afterFetch 2).readValue (s.pc + 2)
    let n := fetchedBytes op
    ((∀ k, k < n → (s.afterFetch k).Readable (s.pc + BitVec.ofNat 16 k)) ∧
      fetchInstr s = .ok (decodeBytes op (if 2 ≤ n then b1 else 0#8) (if 3 ≤ n then b2 else 0#8)) (s.afterFetch n)) ∨
    ∃ k, k < n ∧ (∀ j, j < k → (s.afterFetch j).Readable (s.pc + BitVec.ofNat 16 j)) ∧
      ¬ (s.afterFetch k).Readable (s.pc + BitVec.ofNat 16 k) ∧
      fetchInstr s = .error (.busError (s.pc + BitVec.ofNat 16 k) .read) (s.afterFetch k).rejected := by
  intro op b1 b2 n
  have hn : n = operandFetches op + 1 := rfl
  have le := operandFetches_le op
  unfold fetchInstr
  have z : s.pc + BitVec.ofNat 16 0 = s.pc := BitVec.add_zero s.pc
  have f0 := fetch8_afterFetch s 0
  rw [z] at f0
  change (s.Readable s.pc ∧ fetch8 s = .ok op (s.afterFetch 1)) ∨
    (¬ s.Readable s.pc ∧ fetch8 s = .error (.busError s.pc .read) s.rejected) at f0
  rcases f0 with ⟨r0, e0⟩ | ⟨r0, e0⟩
  · rw [op_bind_ok e0]
    generalize hm : operandFetches op = m at hn le ⊢
    match m, hm with
    | 0, hm =>
      refine .inl ⟨fun k hk => ?_, ?_⟩
      · obtain rfl : k = 0 := by omega
        rw [z]; exact r0
      · rw [if_neg (by omega), if_neg (by omega), show n = 1 by omega]; rfl
    | 1, hm =>
      simp only
      rcases fetch8_afterFetch s 1 with ⟨r1, e1⟩ | ⟨r1, e1⟩
      · rw [op_bind_ok e1]
        refine .inl ⟨fun k hk => ?_, ?_⟩
        · match k with
          | 0 => rw [z]; exact r0
          | 1 => exact r1
          | k + 2 => omega
        · rw [if_pos (by omega), if_neg (by omega), show n = 2 by omega]; rfl
      · exact .inr ⟨1, by omega, fun j hj => by obtain rfl : j = 0 := by omega
                                                rw [z]; exact r0, r1, op_bind_error e1⟩
    | m + 2, hm =>
      simp only
      rcases fetch8_afterFetch s 1 with ⟨r1, e1⟩ | ⟨r1, e1⟩
      · rw [op_bind_ok e1]
        rcases fetch8_afterFetch s 2 with ⟨r2, e2⟩ | ⟨r2, e2⟩
        · rw [op_bind_ok e2]
          refine .inl ⟨fun k hk => ?_, ?_⟩
          · match k with
            | 0 => rw [z]; exact r0
            | 1 => exact r1
            | 2 => exact r2
            | k + 3 => omega
          · rw [if_pos (by omega), if_pos (by omega), show n = 3 by omega]; rfl
        · exact .inr ⟨2, by omega, fun j hj => by
            match j with
            | 0 => rw [z]; exact r0
            | 1 => exact r1
            | j + 2 => omega, r2, op_bind_error e2⟩
      · exact .inr ⟨1, by omega, fun j hj => by obtain rfl : j = 0 := by omega
                                                rw [z]; exact r0, r1, op_bind_error e1⟩
  · exact .inr ⟨0, by omega, fun j hj => by omega, by rw [z]; exact r0, by rw [op_bind_error e0, z]; rfl⟩

/-- What fetching an instruction gives: the decoding of the byte read at PC, in the state after the fetch. -/
theorem fetchInstr_ok {s t : State} {i : Instr} (h : fetchInstr s = .ok i t) :
    ∃ b1 b2, i = decodeBytes (s.readValue s.pc) b1 b2 ∧ t = s.afterFetch (fetchedBytes (s.readValue s.pc)) := by
  rcases fetchInstr_cases s with ⟨-, e⟩ | ⟨k, -, -, -, e⟩ <;> rw [e] at h <;> cases h
  exact ⟨_, _, rfl, rfl⟩

/-- Fetching an instruction can fail only by a rejected read, the earlier reads made. -/
theorem fetchInstr_error {s t : State} {f : Fault} (h : fetchInstr s = .error f t) :
    ∃ k, f = .busError (s.pc + BitVec.ofNat 16 k) .read ∧
      ¬ (s.afterFetch k).Readable (s.pc + BitVec.ofNat 16 k) ∧ t = (s.afterFetch k).rejected := by
  rcases fetchInstr_cases s with ⟨-, e⟩ | ⟨k, -, -, n, e⟩ <;> rw [e] at h <;> cases h
  exact ⟨k, rfl, n, rfl⟩

/-- What a step can do: a Halted iteration; or a rejected fetch, a decoded instruction that faulted, or one that reported a
count and what follows it (60_exceptions.md R281, R285). -/
theorem step_cases {s s' : State} (h : step s = .next s') :
    (s.run = .halted ∧ settle haltedPoll s.beginIteration = .next s') ∨
    (s.run = .running ∧
      ((∃ f t, fetchInstr s.beginIteration = .error f t ∧ s' = { t.faultedBy f with cycles := none }) ∨
        ∃ i t u, fetchInstr s.beginIteration = .ok i t ∧ exec i t = .next u ∧
          ((u.cycles = none ∧ s' = u) ∨
            ∃ n, u.cycles = some n ∧ settle (afterInstruction n) u = .next s'))) := by
  unfold step iteration at h
  split at h
  · next hr =>
    refine .inr ⟨hr, ?_⟩
    unfold runningIteration execute at h
    cases e : fetchInstr s.beginIteration with
    | error f t =>
      rw [e] at h; cases h
      exact .inl ⟨f, t, rfl, rfl⟩
    | ok i t =>
      rw [e] at h
      simp only at h
      cases e2 : exec i t with
      | next u =>
        rw [e2] at h
        simp only at h
        refine .inr ⟨i, t, u, rfl, e2, ?_⟩
        split at h
        · next n hc => exact .inr ⟨n, hc, h⟩
        · next hc => cases h; exact .inl ⟨hc, rfl⟩
      | fault f => rw [e2] at h; cases h
      | refused r => rw [e2] at h; cases h
  · next hr => exact .inl ⟨hr, h⟩
  · cases h

end Sys2Proof.Machine
end

