-- ==== Sys2Proof/Tests/Slice0.lean ====
section
/-! SUPPORT. The model's own tests: ill-formed terms refused, words of every family decoded, single steps with results from
95_test_vectors.md and the rules' own examples, and a witness for the hypotheses of each statement. -/

open Sys2Proof Sys2Proof.Machine

namespace Sys2Proof.Tests

/-- A Running core at 0x0100 with a program there, the rest as after reset. -/
def core (bytes : List Byte) : State := ({ State.reset with pc := 0x0100#16 } : State).placeBytes 0x0100#16 bytes

/-- Whether a step gives a next state with a property. -/
def gives (o : Host.Outcome State Fault Refusal) (p : State → Bool) : Bool :=
  match o with
  | .next t => p t
  | .fault _ | .refused _ => false

/-! ### Well-formed instructions -/

theorem test_bare_prefix_refused : (Instr.prefixCb 0x37#8).wellFormed = false := by decide

theorem test_whole_instruction_accepted : (Instr.swapA).wellFormed = true := by decide

/-! ### Decoding, one word or more of every family (the "Encoding" of each rule) -/

-- 40_loads.md R101, R102, R103, R104, R116, R119, R120, R121
theorem test_decode_loads :
    decode [0b01111000#8] = .ok (.ldAB, []) ∧ decode [0b01100110#8] = .ok (.ldHMemHl, []) ∧
    decode [0b01110101#8] = .ok (.ldMemHlL, []) ∧ decode [0b00011110#8, 0x7F#8] = .ok (.ldED8 0x7F#8, []) ∧
    decode [0xE0#8, 0x80#8] = .ok (.ldhMemA8A 0x80#8, []) ∧ decode [0xF2#8] = .ok (.ldAMemC, []) ∧
    decode [0b00100001#8, 0x34#8, 0x12#8] = .ok (.ldHlD16 0x1234#16, []) ∧
    decode [0x08#8, 0x00#8, 0xC1#8] = .ok (.ldMemA16Sp 0xC100#16, []) := by decide

-- 41_incdec.md R130 to R135
theorem test_decode_incdec :
    decode [0b00111100#8] = .ok (.incA, []) ∧ decode [0b00101101#8] = .ok (.decL, []) ∧
    decode [0b00110100#8] = .ok (.incMemHl, []) ∧ decode [0b00110101#8] = .ok (.decMemHl, []) ∧
    decode [0b00010011#8] = .ok (.incDe, []) ∧ decode [0b00111011#8] = .ok (.decSp, []) := by decide

-- 42_alu8.md R144, R147, R154, R164
theorem test_decode_alu :
    decode [0b10001011#8] = .ok (.adcAE, []) ∧ decode [0b10010011#8] = .ok (.subE, []) ∧
    decode [0b10100110#8] = .ok (.andMemHl, []) ∧ decode [0xFE#8, 0x3C#8] = .ok (.cpD8 0x3C#8, []) := by decide

-- 43_alu16.md R170, R171, R172
theorem test_decode_alu16 :
    decode [0b00111001#8] = .ok (.addHlSp, []) ∧ decode [0xE8#8, 0xFF#8] = .ok (.addSpE8 0xFF#8, []) ∧
    decode [0xF8#8, 0x80#8] = .ok (.ldHlSpE8 0x80#8, []) := by decide

-- 44_rotate_shift.md R183, R185, R195, R200; 45_bit.md R210, R213, R214
theorem test_decode_bits :
    decode [0x1F#8] = .ok (.rra, []) ∧ decode [0xCB#8, 0b00000000#8] = .ok (.rlcB, []) ∧
    decode [0xCB#8, 0b00101001#8] = .ok (.sraC, []) ∧ decode [0xCB#8, 0b00111110#8] = .ok (.srlMemHl, []) ∧
    decode [0xCB#8, 0b01111100#8] = .ok (.bit7H, []) ∧ decode [0xCB#8, 0b10001110#8] = .ok (.res1MemHl, []) ∧
    decode [0xCB#8, 0b11011011#8] = .ok (.set3E, []) := by decide

-- 46_control.md R222, R225, R227, R229, R231; 47_stack.md R242
theorem test_decode_control :
    decode [0b11011010#8, 0x00#8, 0x80#8] = .ok (.jpCA16 0x8000#16, []) ∧
    decode [0b00100000#8, 0xFB#8] = .ok (.jrNzE8 0xFB#8, []) ∧
    decode [0b11010100#8, 0x34#8, 0x12#8] = .ok (.callNcA16 0x1234#16, []) ∧
    decode [0b11001000#8] = .ok (.retZ, []) ∧ decode [0b11101111#8] = .ok (.rst28H, []) ∧
    decode [0b11110001#8] = .ok (.popAf, []) := by decide

-- 48_misc.md R251, R255, R256, R257, R260
theorem test_decode_misc :
    decode [0x27#8] = .ok (.daa, []) ∧ decode [0x76#8] = .ok (.halt, []) ∧ decode [0x10#8, 0x00#8] = .ok (.stop, []) ∧
    decode [0xF3#8] = .ok (.di, []) ∧ decode [0xDD#8] = .ok (.illegalDD, []) := by decide

-- 30_encoding.md R70: a sequence shorter than its length
theorem test_decode_short : decode [] = .error .noOpcode ∧ ∃ e, decode [0xCD#8, 0x34#8] = .error e := ⟨rfl, _, rfl⟩

/-! ### Single steps (95_test_vectors.md, section and row named) -/

/-- V1 3: `LD H,(HL)`. -/
theorem test_ld_h_from_own_address :
    gives (step (({ core [0x66#8] with h := 0xC0#8 } : State).storeByte 0xC000#16 0x5A#8)) (fun t =>
      t.h = 0x5A#8 ∧ t.l = 0x00#8 ∧ t.pc = 0x0101#16 ∧ t.cycles = some 2) = true := by decide

/-- V1 11: `LD A,(HL-)` at HL = 0000. -/
theorem test_ld_a_hl_dec_wraps :
    gives (step (({ core [0x3A#8] with h := 0x00#8 } : State).storeByte 0x0000#16 0x3A#8)) (fun t =>
      t.a = 0x3A#8 ∧ t.h = 0xFF#8 ∧ t.l = 0xFF#8 ∧ t.f.toByte = 0x00#8) = true := by decide

/-- V1 6: `LD A,0x7F` at FFFF, its immediate fetched from 0000. -/
theorem test_operand_fetch_wraps :
    gives (step ((({ State.reset with pc := 0xFFFF#16 } : State).storeByte 0xFFFF#16 0x3E#8).storeByte 0x0000#16 0x7F#8))
      (fun t => t.a = 0x7F#8 ∧ t.pc = 0x0001#16) = true := by decide

/-- V1 23: `LD (0xFFFF),SP`, the second byte at 0000. -/
theorem test_ld_a16_sp_wraps :
    gives (step { core [0x08#8, 0xFF#8, 0xFF#8] with sp := 0x1234#16 }) (fun t =>
      t.byteAt 0xFFFF#16 = 0x34#8 ∧ t.byteAt 0x0000#16 = 0x12#8 ∧ t.cycles = some 5) = true := by decide

/-- V2 1: `INC B`. -/
theorem test_inc_b : gives (step { core [0x04#8] with b := 0xFF#8, f := ⟨false, false, false, true⟩ }) (fun t =>
    t.b = 0x00#8 ∧ t.f.toByte = 0xB0#8 ∧ t.cycles = some 1) = true := by decide

/-- V2 9: `DEC (HL)`. -/
theorem test_dec_mem_hl : gives (step (({ core [0x35#8] with h := 0xC0#8 } : State).storeByte 0xC000#16 0x01#8)) (fun t =>
    t.byteAt 0xC000#16 = 0x00#8 ∧ t.f.toByte = 0xC0#8 ∧ t.cycles = some 3) = true := by decide

/-- V3 7: `ADC A,B`, the carry-in alone overflows. -/
theorem test_adc_carry_in : gives (step { core [0x88#8] with a := 0xFF#8, f := ⟨false, false, false, true⟩ }) (fun t =>
    t.a = 0x00#8 ∧ t.f.toByte = 0xB0#8) = true := by decide

/-- V3 13: `SBC A,H`. -/
theorem test_sbc_h : gives (step { core [0x9C#8] with a := 0x3B#8, h := 0x2A#8, f := ⟨false, false, false, true⟩ }) (fun t =>
    t.a = 0x10#8 ∧ t.f.toByte = 0x40#8) = true := by decide

/-- V3 24: `CP (HL)`. -/
theorem test_cp_mem_hl :
    gives (step (({ core [0xBE#8] with a := 0x3C#8, h := 0xC0#8 } : State).storeByte 0xC000#16 0x40#8)) (fun t =>
      t.a = 0x3C#8 ∧ t.f.toByte = 0x50#8 ∧ t.cycles = some 2) = true := by decide

/-- V4 1: `ADD HL,BC`, half-carry from bit 11. -/
theorem test_add_hl_bit11 : gives (step { core [0x09#8] with h := 0x0F#8, l := 0xFF#8, c := 0x01#8 }) (fun t =>
    t.h = 0x10#8 ∧ t.l = 0x00#8 ∧ t.f.toByte = 0x20#8) = true := by decide

/-- V4 8: `ADD SP,-1`. -/
theorem test_add_sp_minus_one : gives (step { core [0xE8#8, 0xFF#8] with sp := 0x0001#16 }) (fun t =>
    t.sp = 0x0000#16 ∧ t.f.toByte = 0x30#8 ∧ t.cycles = some 4) = true := by decide

/-- V5 3: `RLCA` leaves Z; V5b 1: under `A_ROT_Z = Cleared` it clears Z. -/
theorem test_rlca_z :
    gives (step { core [0x07#8] with a := 0x01#8, f := ⟨true, false, false, false⟩ }) (fun t =>
      t.a = 0x02#8 ∧ t.f.toByte = 0x80#8) = true ∧
    gives (step { core [0x07#8] with
      a := 0x01#8, f := ⟨true, false, false, false⟩, cfg := { Config.standard with aRotZ := .cleared } }) (fun t =>
      t.a = 0x02#8 ∧ t.f.toByte = 0x00#8) = true := by decide

/-- 48_misc.md R259: `CB 37` (SWAP A) with A = F0. -/
theorem test_swap_a : gives (step { core [0xCB#8, 0x37#8] with a := 0xF0#8 }) (fun t =>
    t.a = 0x0F#8 ∧ t.cycles = some 2 ∧ t.pc = 0x0102#16) = true := by decide

/-- W4: `JR NZ,-5`, not taken and taken. -/
theorem test_jr_nz :
    gives (step { core [0x20#8, 0xFB#8] with f := ⟨true, false, false, false⟩ }) (fun t =>
      t.pc = 0x0102#16 ∧ t.cycles = some 2) = true ∧
    gives (step (core [0x20#8, 0xFB#8])) (fun t => t.pc = 0x00FD#16 ∧ t.cycles = some 3) = true := by decide

/-- V8 2: `PUSH AF`. -/
theorem test_push_af :
    gives (step { core [0xF5#8] with sp := 0xFFFE#16, a := 0x12#8, f := ⟨true, false, true, true⟩ }) (fun t =>
      t.sp = 0xFFFC#16 ∧ t.byteAt 0xFFFD#16 = 0x12#8 ∧ t.byteAt 0xFFFC#16 = 0xB0#8) = true := by decide

/-- W7: `POP AF` masks the low nibble of F. -/
theorem test_pop_af :
    gives (step ((({ core [0xF1#8] with sp := 0xFFFC#16 } : State).storeByte 0xFFFC#16 0xFF#8).storeByte 0xFFFD#16 0x12#8))
      (fun t => t.a = 0x12#8 ∧ t.f.toByte = 0xF0#8 ∧ t.sp = 0xFFFE#16) = true := by decide

/-- V9 2: `DAA` after 45 + 38. -/
theorem test_daa : gives (step { core [0x27#8] with a := 0x7D#8 }) (fun t => t.a = 0x83#8 ∧ t.f.toByte = 0x00#8) = true := by
  decide

/-- 48_misc.md R260: 0xDD at 0150. -/
theorem test_illegal : gives (step (({ State.reset with pc := 0x0150#16 } : State).storeByte 0x0150#16 0xDD#8)) (fun t =>
    t.run = .faulted (.illegalOpcode 0xDD#8 0x0150#16) ∧ t.pc = 0x0151#16 ∧ t.timerCalls = []) = true := by decide

/-- W5: the interrupt dispatch, its bus calls in order and the Timer calls. -/
def dispatchState : State :=
  ({ State.reset with pc := 0x0150#16, sp := 0xFFFE#16, ime := true } : State).storeByte 0xFFFF#16 0x01#8
    |>.storeByte 0xFF0F#16 0x01#8

theorem test_dispatch : gives (step dispatchState) (fun t =>
    t.pc = 0x0040#16 ∧ t.sp = 0xFFFC#16 ∧ t.ime = false ∧ t.timerCalls = [1, 5] ∧
    t.busCalls = [⟨.read, 0x0150#16, 0x00#8⟩, ⟨.read, 0xFFFF#16, 0x01#8⟩, ⟨.read, 0xFF0F#16, 0x01#8⟩,
      ⟨.write, 0xFF0F#16, 0x00#8⟩, ⟨.write, 0xFFFD#16, 0x01#8⟩, ⟨.write, 0xFFFC#16, 0x51#8⟩]) = true := by decide

/-- An instruction placed by `withFetchWord` runs as the first after reset (log entry 12): `LD SP,0xFFFE`. -/
theorem test_fetch_word : gives (step (State.reset.withFetchWord 24 0xFFFE31)) (fun t => t.sp = 0xFFFE#16) = true ∧
    decodeTableWord 24 0xFFFE31 = some (.ldSpD16 0xFFFE#16) := by decide

/-- A request of a device arrives at the Timer call and is serviced in the same iteration (log entry 10; 60_exceptions.md
R281, R284). -/
theorem test_device_request : gives (step { core [0x00#8, 0x00#8] with
      ime := true, sp := 0xFFFE#16, requests := [0x04#8], mem := [(0xFFFF, 0x04#8)] }) (fun t =>
    t.pc = 0x0050#16 ∧ t.byteAt 0xFF0F#16 = 0x00#8 ∧ t.requests = []) = true := by decide

/-! ### Witnesses: states that meet the hypotheses of the statements -/

/-- Every pair at the top of memory. -/
def top : State :=
  { core [] with b := 0xFF#8, c := 0xFF#8, d := 0xFF#8, e := 0xFF#8, h := 0xFF#8, l := 0xFF#8, sp := 0xFFFF#16 }

/-- A bus that rejects reads of 0xFFFF. -/
def noRead : State := { top with rejects := [⟨.read, 0xFFFF#16⟩] }

/-- A bus that rejects writes of 0xFFFF. -/
def noWrite : State := { top with rejects := [⟨.write, 0xFFFF#16⟩] }

theorem witness_DecodeOfEncode : (Instr.callA16 0xFFFF#16).wellFormed = true ∧ (Instr.stop).wellFormed = true ∧
    (Instr.set7A).wellFormed = true := by decide

theorem witness_EncodeOfDecode :
    decode [0xCD#8, 0xFF#8, 0xFF#8, 0xAA#8] = .ok (.callA16 0xFFFF#16, [0xAA#8]) ∧ instrLength 0xCD#8 = 3 ∧
    decode [0x10#8, 0x01#8] = .ok (.stop, []) := by decide

theorem witness_IllegalOpcodesFault :
    decodeBytes 0xD3#8 0#8 0#8 = Instr.illegal 0 ∧ decodeBytes 0xFD#8 0xFF#8 0xFF#8 = Instr.illegal 10 := by decide

theorem witness_KernelClosedForms : (1 : Nat) ≤ 1 ∧ apply .add 8 255 [255, 1] = 255 ∧
    carryOccurs .sub 8 0 [255, 1] = true := by decide

theorem witness_ApplyStaysInWidth : KernelOp.xor ≠ .add ∧ KernelOp.xor ≠ .sub := by decide

theorem witness_KernelAssertionOnlyOnOddWidth :
    gives (exec .nop { top with run := .faulted (.kernelAssertion 7) }) (fun t => t.run = .faulted (.kernelAssertion 7)) =
      true := by decide

theorem witness_PairsAreViews : Reg16S.hl ≠ .af := by decide

theorem witness_ResetZeroesTheCore : hostReset top ∈ [State.reset, hostReset top] := by decide

theorem witness_ResetKeepsTheBus :
    ({ top with run := .faulted (.kernelAssertion 7) } : State).run = .faulted (.kernelAssertion 7) := by decide

theorem witness_ResetMeetsInvariant : State.reset.Inv ∧ top.Inv := by decide

/-- A fixture of 10_state.md R33 with a nonzero low nibble of `f`. -/
def fixture : Fixture :=
  { pc := 0x0100#16, sp := 0xFFFE#16, a := 1#8, b := 2#8, c := 3#8, d := 4#8, e := 5#8, f := 0xBF#8, h := 6#8, l := 7#8
    ram := [(0xFFFF#16, 0x1F#8)] }

theorem witness_LoadThenDumpRegisters : top.BusNeverFails ∧ top.mem.wf ∧ top.BusIsMemory ∧
    ∃ t, loadState fixture top = .ok () t ∧ t.byteAt 0xFFFF#16 = 0x1F#8 ∧ t.f.toByte = 0xB0#8 :=
  ⟨by decide, by decide, by decide, _, rfl, by decide, by decide⟩

/-- Accepted and rejected pairs and addresses, the first and a later one. -/
theorem witness_LoadAndDumpCalls :
    top.acceptsWrites fixture.ram = true ∧ top.acceptsReads [0xFFFF#16, 0x0000#16] = true ∧
    ¬ (noWrite.didWrites []).Writable 0xFFFF#16 ∧
    (noWrite.acceptsWrites [(0xFFFE#16, 1#8)] = true ∧ ¬ (noWrite.didWrites [(0xFFFE#16, 1#8)]).Writable 0xFFFF#16) ∧
    (noRead.acceptsReads [0xFFFE#16] = true ∧ ¬ (noRead.didReads [0xFFFE#16]).Readable 0xFFFF#16) := by decide

theorem witness_MemoryReadAfterWrite : Memory.wf [(0, 5#8), (65535, 1#8)] ∧ (65534 : Nat) ≠ 65535 ∧
    Memory.write [(0, 5#8), (65535, 1#8)] 65535 0x00#8 = [(0, 5#8)] ∧ top.mem.wf ∧ top.BusIsMemory := by decide

/-- A bus of its own: the second call reads 0x77 and changes the byte at 0xC000, the third fails. -/
def ownBus : State :=
  { top with replies := [.asMemory, .platform (some 0x77#8) [(0xC000#16, 0x99#8)], .platform none [(0xC001#16, 1#8)]] }

theorem witness_BusCallsByReply : ownBus.reply = .asMemory ∧ noRead.reply = .asMemory ∧
    (ownBus.didRead 0#16).reply = .platform (some 0x77#8) [(0xC000#16, 0x99#8)] ∧
    ((ownBus.didRead 0#16).didRead 0#16).reply = .platform none [(0xC001#16, 1#8)] := by decide

/-- D1: a read with a side effect; and a write that the bus ignores. -/
theorem test_own_bus :
    gives (exec .ldAMemBc (ownBus.didRead 0#16)) (fun t => t.a = 0x77#8 ∧ t.byteAt 0xC000#16 = 0x99#8) = true ∧
    gives (exec .ldMemBcA { top with a := 5#8, replies := [.platform (some 0#8) []] }) (fun t =>
      t.run = .running ∧ t.byteAt 0xFFFF#16 = 0x00#8 ∧ t.busCalls = [⟨.write, 0xFFFF#16, 5#8⟩]) = true := by decide

/-- D1: a call that fails once, the second byte of a pop. -/
theorem test_late_failure :
    gives (exec .popBc { top with replies := [.asMemory, .platform none []] }) (fun t =>
      t.run = .faulted (.busError 0x0000#16 .read) ∧ t.sp = 0x0000#16 ∧ t.replies = []) = true := by decide

theorem witness_DoubleByteAccess : top.Readable 0xFFFF#16 ∧ (top.didRead 0xFFFF#16).Readable (0xFFFF#16 + 1) ∧
    top.Writable 0xFFFF#16 ∧ (top.didWrite 0xFFFF#16 0x34#8).Writable (0xFFFF#16 + 1) := by decide

/-- A push and a pop at the wrap of SP; each stack byte rejected in turn. -/
theorem witness_PushThenPop :
    ({ top with sp := 0x0001#16 } : State).CanPush 0x1234#16 ∧ top.CanPop ∧ top.mem.wf ∧ top.BusIsMemory ∧
    ¬ ({ noWrite with sp := 0x0000#16 } : State).CanPush 0x1234#16 ∧
    ¬ ({ noWrite with sp := 0x0001#16 } : State).CanPush 0x1234#16 ∧
    ({ noWrite with sp := 0x0001#16 } : State).Writable 0x0000#16 ∧
    ¬ noRead.CanPop ∧ ¬ ({ noRead with sp := 0xFFFE#16 } : State).CanPop ∧ noRead.Readable 0xFFFE#16 := by decide

/-- A three-byte instruction at 0xFFFD: its first, second or third fetch rejected. -/
def callAtTop (rejected : Word) : State :=
  ({ State.reset with pc := 0xFFFD#16, rejects := [⟨.read, rejected⟩] } : State).storeByte 0xFFFD#16 0xCD#8

theorem witness_RejectedCallFaults :
    ¬ noRead.Readable 0xFFFF#16 ∧ ¬ noWrite.Writable 0xFFFF#16 ∧
    (0 < fetchedBytes ((callAtTop 0xFFFD#16).fetchedByte 0) ∧ ¬ (callAtTop 0xFFFD#16).CanFetch 0) ∧
    (2 < fetchedBytes ((callAtTop 0xFFFF#16).fetchedByte 0) ∧ (callAtTop 0xFFFF#16).run = .running ∧
      (∀ j, j < 2 → (callAtTop 0xFFFF#16).CanFetch j) ∧ ¬ (callAtTop 0xFFFF#16).CanFetch 2) := by decide

theorem witness_LoadsFromMemory : Instr.ldRMemHl .h = .ldHMemHl ∧ top.h ++ top.l = 0xFFFF#16 ∧
    0xFF#8 ++ top.c = 0xFFFF#16 ∧ top.Readable 0xFFFF#16 ∧ ¬ noRead.Readable 0xFFFF#16 := by decide

theorem witness_StoresToMemory : Instr.ldMemHlR .l = .ldMemHlL ∧ top.h ++ top.l = 0xFFFF#16 ∧
    0xFF#8 ++ top.c = 0xFFFF#16 ∧ top.Writable 0xFFFF#16 ∧ ¬ noWrite.Writable 0xFFFF#16 := by decide

theorem witness_LoadsAndStoresMovingHl : Instr.ldAMemHlStep true = .ldAMemHlInc ∧ Instr.ldMemHlStepA false = .ldMemHlDecA ∧
    top.Readable (top.h ++ top.l) ∧ ¬ noRead.Readable (noRead.h ++ noRead.l) ∧ top.Writable (top.h ++ top.l) ∧
    ¬ noWrite.Writable (noWrite.h ++ noWrite.l) := by decide

theorem witness_StoreStackPointer : top.Writable (0xFF#8 ++ 0xFF#8) ∧
    (top.didWrite (0xFF#8 ++ 0xFF#8) 0xFF#8).Writable (0xFF#8 ++ 0xFF#8 + 1) ∧
    ¬ noWrite.Writable (0xFF#8 ++ 0xFF#8) ∧ noWrite.Writable (0xFF#8 ++ 0xFE#8) ∧
    ¬ (noWrite.didWrite (0xFF#8 ++ 0xFE#8) 0xFF#8).Writable (0xFF#8 ++ 0xFE#8 + 1) := by decide

/-- The access at HL of the read-modify-write forms and of the other `(HL)` forms: accepted, its read rejected, its write
rejected. -/
theorem witness_MemHlForms : top.Readable (top.h ++ top.l) ∧ (top.didRead (top.h ++ top.l)).Writable (top.h ++ top.l) ∧
    ¬ noRead.Readable (noRead.h ++ noRead.l) ∧ noWrite.Readable (noWrite.h ++ noWrite.l) ∧
    ¬ (noWrite.didRead (noWrite.h ++ noWrite.l)).Writable (noWrite.h ++ noWrite.l) := by decide

theorem witness_IncDecMemory : gives (exec .incMemHl noWrite) (fun t =>
    t.run = .faulted (.busError 0xFFFF#16 .write) ∧ t.f = noWrite.f) = true ∧
    gives (exec .decMemHl top) (fun t => t.byteAt 0xFFFF#16 = 0xFF#8) = true := by decide

theorem witness_AluMemoryForms : gives (exec .orMemHl noRead) (fun t =>
    t.run = .faulted (.busError 0xFFFF#16 .read) ∧ t.f = noRead.f) = true := by decide

theorem witness_AccumulatorRotates :
    (RotOp.rr, Instr.rra, 0x1F#8) ∈
      [(RotOp.rlc, Instr.rlca, 0x07#8), (.rrc, .rrca, 0x0F#8), (.rl, .rla, 0x17#8), (.rr, .rra, 0x1F#8)] := by decide

theorem witness_RotateShiftMemory : gives (exec (Instr.rotMemHl .sra) top) (fun t => t.f.z ∧ t.cycles = some 4) = true ∧
    gives (exec (Instr.rotMemHl .sra) noWrite) (fun t => t.run = .faulted (.busError 0xFFFF#16 .write)) = true := by decide

theorem witness_BitTest : gives (exec (Instr.bitMemHl 7) top) (fun t => t.f.z ∧ t.cycles = some 3) = true ∧
    gives (exec (Instr.bitMemHl 7) noRead) (fun t => t.run = .faulted (.busError 0xFFFF#16 .read)) = true := by decide

theorem witness_BitResetAndSet : gives (exec (Instr.setMemHl 7) top) (fun t => t.byteAt 0xFFFF#16 = 0x80#8) = true ∧
    gives (exec (Instr.resMemHl 0) noWrite) (fun t => t.run = .faulted (.busError 0xFFFF#16 .write)) = true := by decide

/-- A condition that holds and one that does not, with a stack that accepts and one that rejects. -/
theorem witness_CallsAndRestarts :
    (!top.f.z) = true ∧ top.f.c = false ∧ top.CanPush top.pc ∧
    ¬ ({ noWrite with sp := 0x0000#16 } : State).CanPush top.pc ∧
    gives (exec (Instr.callCcA16 .nz 0x1234#16) top) (fun t => t.pc = 0x1234#16) = true ∧
    gives (exec (Instr.callCcA16 .c 0x1234#16) top) (fun t => t.pc = top.pc ∧ t.sp = top.sp) = true ∧
    gives (exec (Instr.rst 7) { noWrite with sp := 0x0001#16 }) (fun t =>
      t.run = .faulted (.busError 0xFFFF#16 .write) ∧ t.sp = 0xFFFF#16 ∧ t.pc = top.pc) = true := by decide

theorem witness_Returns :
    (!top.f.c) = true ∧ top.f.z = false ∧ top.CanPop ∧ ¬ noRead.CanPop ∧
    gives (exec (Instr.retCc .nc) top) (fun t => t.sp = 0x0001#16 ∧ t.cycles = some 5) = true ∧
    gives (exec .reti noRead) (fun t => t.run = .faulted (.busError 0xFFFF#16 .read) ∧ t.ime = false) = true := by decide

theorem witness_PushAndPopPairs : top.CanPush (top.getR16S .af) ∧ top.CanPop ∧
    ¬ ({ noWrite with sp := 0x0000#16 } : State).CanPush (noWrite.getR16S .af) ∧
    ¬ ({ noRead with sp := 0xFFFE#16 } : State).CanPop := by decide

theorem witness_DecimalArithmetic : (99 : Nat) < 100 ∧
    ({ top with a := 0x99#8, b := 0x99#8 } : State).a = Expected.bcd 99 ∧
    gives (exec .addAB { top with a := 0x99#8, b := 0x99#8 }) (fun t => t.a = 0x32#8 ∧ t.f.h ∧ t.f.c) = true := by decide

/-- STOP under each mode, and under Skip with its second byte's fetch rejected. -/
theorem witness_StopByMode : State.reset.cfg.stopMode = .fault ∧
    gives (exec .stop { top with cfg := { Config.standard with stopMode := .skip } }) (fun t =>
      t.run = .running ∧ t.pc = 0x0101#16) = true ∧
    gives (exec .stop { noRead with pc := 0xFFFF#16, cfg := { Config.standard with stopMode := .skip } }) (fun t =>
      t.run = .faulted (.busError 0xFFFF#16 .read)) = true := by decide

/-- A three-byte instruction whose three fetches are accepted. -/
def callAt0100 : State := core [0xCD#8, 0x34#8, 0x12#8]

theorem witness_StepRunsDecodedInstruction : callAt0100.run = .running ∧ fetchedBytes (callAt0100.fetchedByte 0) = 3 ∧
    decode [callAt0100.fetchedByte 0, callAt0100.fetchedByte 1, callAt0100.fetchedByte 2] = .ok (.callA16 0x1234#16, []) ∧
    ∀ k, k < 3 → callAt0100.CanFetch k := by decide

/-- After an instruction: Halted, eiDelay set, IME clear, IME set with IE or IF readable or not. -/
theorem witness_InterruptCheckCases :
    ({ top with run := .halted } : State).run = .halted ∧ ({ top with eiDelay := true } : State).eiDelay = true ∧
    top.run = .running ∧ top.eiDelay = false ∧ top.ime = false ∧
    (dispatchState.ime = true ∧ (dispatchState.timed 1).Readable dispatchState.cfg.ieAddr ∧
      ((dispatchState.timed 1).didRead 0xFFFF#16).Readable dispatchState.cfg.ifAddr) ∧
    ¬ (({ noRead with ime := true } : State).timed 1).Readable noRead.cfg.ieAddr ∧
    ((({ dispatchState with rejects := [⟨.read, 0xFF0F#16⟩] } : State).timed 1).Readable 0xFFFF#16 ∧
      ¬ ((({ dispatchState with rejects := [⟨.read, 0xFF0F#16⟩] } : State).timed 1).didRead 0xFFFF#16).Readable
        0xFF0F#16) := by decide

theorem witness_ServicePriority : firstServiceable 0x1F#8 0xF6#8 = some .lcd ∧ firstServiceable 0x10#8 0x10#8 = some .joypad ∧
    firstServiceable 0xE0#8 0xE0#8 = none := by decide

theorem witness_InterruptEntry :
    (dispatchState.Writable dispatchState.cfg.ifAddr ∧
      (({ dispatchState with ime := false } : State).didWrite 0xFF0F#16 0#8).CanPush dispatchState.pc) ∧
    ¬ ({ dispatchState with rejects := [⟨.write, 0xFF0F#16⟩] } : State).Writable dispatchState.cfg.ifAddr ∧
    (({ noWrite with sp := 0x0000#16 } : State).Writable noWrite.cfg.ifAddr ∧
      ¬ (({ noWrite with sp := 0x0000#16 } : State).didWrite 0xFF0F#16 0#8).CanPush noWrite.pc) := by decide

/-- Halted: nothing pending, pending with IME clear, pending with IME set, woken by bit 7 under WAKE_MASK = 0xFF with IME set
and no serviceable source, and a rejected poll. -/
theorem witness_HaltedIteration :
    gives (step { top with run := .halted }) (fun t => t.run = .halted ∧ t.timerCalls = [1]) = true ∧
    gives (step { dispatchState with run := .halted, ime := false }) (fun t =>
      t.run = .running ∧ t.pc = 0x0150#16 ∧ t.byteAt 0xFF0F#16 = 0x01#8) = true ∧
    gives (step { dispatchState with run := .halted }) (fun t => t.pc = 0x0040#16 ∧ t.timerCalls = [1, 5]) = true ∧
    gives (step { top with
      run := .halted, ime := true
      mem := [(0xFF0F, 0x80#8), (0xFFFF, 0x80#8)]
      cfg := { Config.standard with wakeMask := .whole } }) (fun t =>
      t.run = .running ∧ t.ime = true ∧ t.timerCalls = [1] ∧ t.byteAt 0xFF0F#16 = 0x80#8) = true ∧
    gives (step { noRead with run := .halted }) (fun t => t.run = .faulted (.busError 0xFFFF#16 .read)) = true ∧
    gives (step { top with run := .halted, rejects := [⟨.read, 0xFF0F#16⟩] }) (fun t =>
      t.run = .faulted (.busError 0xFF0F#16 .read)) = true := by decide

theorem witness_EiDelaysService :
    (core [0xFB#8]).run = .running ∧ (core [0xFB#8]).Readable 0x0100#16 ∧
    (core [0xFB#8]).readValue 0x0100#16 = 0xFB#8 := by decide

theorem witness_FaultedIsTerminal :
    ({ top with run := .faulted (.kernelAssertion 7) } : State).run ≠ .running ∧
    ({ top with run := .halted } : State).run ≠ .running ∧ top.run = .running ∧
    (core [0xFB#8]).readValue 0x0100#16 = 0xFB#8 ∧ (core [0xFB#8]).Readable 0x0100#16 ∧
    (∀ k, k < 2 → (callAtTop 0xFFFF#16).CanFetch k) ∧ ¬ (callAtTop 0xFFFF#16).CanFetch 2 := by decide

/-- 60_exceptions.md R289: `step()` with a pending enabled interrupt runs the instruction, calls no Timer and services
nothing; the EI it runs leaves eiDelay set. -/
theorem test_host_step :
    gives (hostStep dispatchState) (fun t => t.pc = 0x0151#16 ∧ t.ime = true ∧ t.timerCalls = [] ∧ t.cycles = some 1) =
      true ∧
    gives (hostStep (core [0xFB#8])) (fun t => t.ime = true ∧ t.eiDelay = true) = true := by decide

theorem witness_StepKeepsInvariant : dispatchState.Inv ∧ gives (step dispatchState) (fun t => decide t.Inv) = true := by decide

theorem witness_EveryStepCompletes : top.run.operational = true ∧ (RunState.halted).operational = true := by decide

theorem witness_FaultsOnReferenceMemory :
    ((core [0xDD#8]).BusNeverFails ∧ (core [0xDD#8]).run.operational = true ∧
      gives (step (core [0xDD#8])) (fun t => t.run = .faulted (.illegalOpcode 0xDD#8 0x0100#16)) = true) ∧
    gives (step (core [0x10#8, 0x00#8])) (fun t => t.run = .faulted (.unimplemented 0x10#8 0x0100#16)) = true := by decide

theorem witness_EiDelayEndsWithIteration : (core [0xFB#8]).eiDelay = false ∧
    gives (step (core [0xFB#8])) (fun t => t.ime ∧ !t.eiDelay) = true := by decide

/-- The frames: a taken CALL stores two bytes, an untaken one none. -/
theorem witness_MemoryFrame : (0xC001#16 ∈ ownBus.platformChanges ∧ 0xC002#16 ∉ ownBus.platformChanges) ∧ storedAddrs (.callZA16 0x1234#16) top = [] ∧
    storedAddrs (.callNzA16 0x1234#16) top = [0xFFFE#16, 0xFFFD#16] ∧
    gives (exec (.callNzA16 0x1234#16) top) (fun t => t.byteAt 0xFFFE#16 = 0x01#8) = true := by decide

theorem witness_RegisterFrame : Reg8.a ∉ destR8 .incB ∧ writesSp .incB = false ∧ writesPc .incB = false ∧
    gives (exec .incB top) (fun t => t.b = 0x00#8) = true := by decide

theorem witness_FlagFrame : (flagsWritten .incB Config.standard).c = false ∧
    (flagsWritten .rlca Config.standard).z = false ∧ (flagsWritten .daa Config.standard).n = false ∧
    (flagsWritten .nop Config.standard).h = false := by decide

theorem witness_ControlFrame : Instr.halt ≠ .ei ∧ Instr.halt ≠ .di ∧ Instr.halt ≠ .reti ∧
    gives (exec .halt top) (fun t => t.run = .halted) = true := by decide

end Sys2Proof.Tests
end

section
/-! PROOFS. The kernel's closed forms, range and parity law (00_scope.md R10 to R12, R15). -/

namespace Sys2Proof.Machine

/-- Every fold step is reduced modulo 2^w (00_scope.md R10). -/
theorem applyStep_lt (op : KernelOp) (w acc r : Nat) : applyStep op w acc r < 2 ^ w := by
  cases op <;> exact Nat.mod_lt _ (Nat.two_pow_pos w)

theorem apply_lt (op : KernelOp) (w left : Nat) (rights : List Nat) : apply op w left rights < 2 ^ w :=
  List.foldlRecOn (motive := (· < 2 ^ w)) rights _ (Nat.mod_lt _ (Nat.two_pow_pos w))
    fun acc _ r _ => applyStep_lt op w acc (r % 2 ^ w)

/-- No step of a logic operation leaves the width, so no fold of one does (00_scope.md R11). -/
theorem carryFold_logic {op : KernelOp} (ha : op ≠ .add) (hs : op ≠ .sub) (w acc : Nat) (rights : List Nat) :
    carryFold op w acc rights = false := by
  have step_false : ∀ acc r, carryStep op w acc r = false := by
    cases op
    case add => exact absurd rfl ha
    case sub => exact absurd rfl hs
    all_goals exact fun _ _ => rfl
  induction rights generalizing acc with
  | nil => rfl
  | cons r rest ih => rw [carryFold, step_false, ih]; rfl

theorem apply_add_two (w left r k : Nat) : apply .add w left [r, k] = (left + r + k) % 2 ^ w := by
  simp [apply_two, applyStep]

/-- One subtraction step is the exact difference modulo 2^w, with the non-negative remainder (00_scope.md R6, R10). -/
theorem applyStep_sub_cast {w acc r : Nat} (hr : r ≤ 2 ^ w) :
    (applyStep .sub w acc r : Int) = ((acc : Int) - r) % (2 ^ w : Nat) := by
  have e : ((acc + 2 ^ w - r : Nat) : Int) = (acc : Int) - r + (2 ^ w : Nat) := by omega
  rw [applyStep, Int.natCast_emod, e, Int.add_emod_right]

theorem apply_sub_two (w left r k : Nat) :
    (apply .sub w left [r, k] : Int) = ((left : Int) - r - k) % (2 ^ w : Nat) := by
  have masked_le (n : Nat) : n % 2 ^ w ≤ 2 ^ w := (Nat.mod_lt n (Nat.two_pow_pos w)).le
  rw [apply_two, applyStep_sub_cast (masked_le k), applyStep_sub_cast (masked_le r)]
  simp only [Int.natCast_emod, Int.sub_emod_emod, Int.emod_sub_emod]

end Sys2Proof.Machine

open Sys2Proof Sys2Proof.Machine

/-- Settles O5: each fold is its closed form at any width; the half-carry is the carry at width 4. -/
theorem kernelClosedForms : Obligations.KernelClosedForms := by
  intro a b c s hc
  have ha := a.isLt
  have hb := b.isLt
  have masked (n : Nat) (hn : n < 2 ^ 8) : n % 2 ^ 8 = n := Nat.mod_eq_of_lt hn
  refine ⟨apply_add_two 8 _ _ _, ?_, ?_, apply_sub_two 8 _ _ _, ?_, ?_⟩
  · rw [carryOccurs_add_two 8 _ _ _ hc (by omega), masked _ ha, masked _ hb]
    exact decide_eq_decide.2 (by omega)
  · rw [halfCarry_even _ (by omega), carryOccurs_add_two _ _ _ _ hc (by omega)]
    exact congrArg (EStateM.Result.ok · s) (decide_eq_decide.2 (by omega))
  · rw [carryOccurs_sub_two 8 _ _ _ hc (by omega), masked _ ha, masked _ hb]
    exact decide_eq_decide.2 (by omega)
  · rw [halfCarry_even _ (by omega), carryOccurs_sub_two _ _ _ _ hc (by omega)]
    exact congrArg (EStateM.Result.ok · s) (decide_eq_decide.2 (by omega))

/-- Settles O6, by induction on the operands: every step is reduced modulo 2^w, and no step of a logic operation carries. -/
theorem applyStaysInWidth : Obligations.ApplyStaysInWidth :=
  fun op w left rights => ⟨apply_lt op w left rights, fun ha hs => carryFold_logic ha hs w _ rights⟩
end

section
/-! PROOFS. One rule for each operation that `exec` runs: what the state updates of the core and the bus's answers keep, the
operation keeps. HALT, STOP, DI, EI, RETI and the illegal opcodes write the control fields or raise a fault of their own;
they are left to the caller (`exec_keeps_or_control`). -/

namespace Sys2Proof.Machine

/-- A relation kept by every write of registers, flags, SP and PC and by every bus call, and a condition `E` that the bus
faults meet. `I` is what the relation carries along and a bus fault may rest on, for example that the bus never fails. -/
structure KeptByEffects (I : State → Prop) (R : State → State → Prop) (E : Fault → Prop) : Prop extends Composes R where
  carries : ∀ {s t}, R s t → I s → I t
  registers : ∀ s (a b c d e h l : Byte) (f : Flags) (sp pc : Word),
    R s { s with a := a, b := b, c := c, d := d, e := e, h := h, l := l, f := f, sp := sp, pc := pc }
  didRead : ∀ s addr, R s (s.didRead addr)
  didWrite : ∀ s addr v, R s (s.didWrite addr v)
  rejected : ∀ s, R s s.rejected
  busError : ∀ s site, I s → ¬ s.accepts site = true → E (.busError site.addr site.dir)

/-- From every state that meets `I` the operation ends in a related one, and its faults meet `E`. -/
def OpKeeps (I : State → Prop) (R : State → State → Prop) (E : Fault → Prop) {α : Type} (op : Op α) : Prop :=
  ∀ s, I s → OpFrom R E s op

theorem OpKeeps.read {α : Type} {I : State → Prop} {R : State → State → Prop} {E : Fault → Prop} {f : State → Op α}
    (hf : ∀ s, OpKeeps I R E (f s)) : OpKeeps I R E (getState >>= f) :=
  fun s hs => from_getState (hf s s hs)

theorem OpKeeps.update {I : State → Prop} {R : State → State → Prop} {E : Fault → Prop} {g : State → State}
    (h : ∀ s, R s (g s)) : OpKeeps I R E (updateState g) :=
  fun s _ => from_updateState (h s)

namespace KeptByEffects

variable {α β : Type} {I : State → Prop} {R : State → State → Prop} {E : Fault → Prop} (k : KeptByEffects I R E)
include k

/-! The primitives of the pseudocode. -/

theorem pure (v : α) : OpKeeps I R E (Pure.pure v : Op α) := fun s _ => from_pure (k.refl s) v

theorem bind {x : Op α} {f : α → Op β} (hx : OpKeeps I R E x) (hf : ∀ v, OpKeeps I R E (f v)) :
    OpKeeps I R E (x >>= f) :=
  fun s hs => from_bind k.toComposes (hx s hs) fun v t _ hR => hf v t (k.carries hR hs)

theorem memRead (addr : Word) : OpKeeps I R E (memRead addr) :=
  fun s hs => from_memRead addr (k.rejected s) (k.didRead s addr) (k.busError s ⟨.read, addr⟩ hs)

theorem memWrite (addr : Word) (v : Byte) : OpKeeps I R E (memWrite addr v) :=
  fun s hs => from_memWrite addr v (k.rejected s) (k.didWrite s addr v) (k.busError s ⟨.write, addr⟩ hs)

theorem halfCarry (op : KernelOp) {w : Nat} (hw : w % 2 = 0) (left : Nat) (rights : List Nat) :
    OpKeeps I R E (halfCarry op w left rights) := fun s _ => from_halfCarry (k.refl s) op hw left rights

theorem setFlags (f : Flags) : OpKeeps I R E (setFlags f) := .update fun _ => k.registers ..

theorem updateR8 (r : Reg8) (v : State → Byte) : OpKeeps I R E (updateState fun s => s.setR8 r (v s)) :=
  .update fun _ => by cases r <;> exact k.registers ..

theorem updateR16 (rr : Reg16) (v : State → Word) : OpKeeps I R E (updateState fun s => s.setR16 rr (v s)) :=
  .update fun _ => by cases rr <;> exact k.registers ..

theorem updateR16S (rr : Reg16S) (v : State → Word) : OpKeeps I R E (updateState fun s => s.setR16S rr (v s)) :=
  .update fun _ => by cases rr <;> exact k.registers ..

theorem fetch8 : OpKeeps I R E fetch8 :=
  .read fun _ => k.bind (k.memRead _) fun _ => k.bind (.update fun _ => k.registers ..) fun _ => k.pure _

theorem pushByte (v : Byte) : OpKeeps I R E (pushByte v) :=
  k.bind (.update fun _ => k.registers ..) fun _ => .read fun _ => k.memWrite _ _

theorem push16 (v : Word) : OpKeeps I R E (push16 v) := k.bind (k.pushByte _) fun _ => k.pushByte _

theorem popByte : OpKeeps I R E popByte :=
  .read fun _ => k.bind (k.memRead _) fun _ => k.bind (.update fun _ => k.registers ..) fun _ => k.pure _

theorem pop16 : OpKeeps I R E pop16 := k.bind k.popByte fun _ => k.bind k.popByte fun _ => k.pure _

theorem memWrite16 (addr v : Word) : OpKeeps I R E (memWrite16 addr v) :=
  k.bind (k.memWrite _ _) fun _ => k.memWrite _ _

/-! The two shapes most instructions have: something done, or read from the bus, and then the count. -/

theorem returning {x : Op Unit} (hx : OpKeeps I R E x) (n : Nat) : OpKeeps I R E (x >>= fun _ => Pure.pure n) :=
  k.bind hx fun _ => k.pure n

theorem loading {g : Byte → State → State} (addr : Word) (hg : ∀ v s, R s (g v s)) (n : Nat) :
    OpKeeps I R E (Machine.memRead addr >>= fun v => updateState (g v) >>= fun _ => Pure.pure n) :=
  k.bind (k.memRead addr) fun v => k.returning (.update (hg v)) n

theorem prefixed {op : Op Nat} (h : OpKeeps I R E op) : OpKeeps I R E (prefixed op) := k.bind h fun _ => k.pure _

/-! Loads (40_loads.md) and the stack (47_stack.md). -/

theorem ldRR (dst src : Reg8) : OpKeeps I R E (ldRR dst src) := k.returning (k.updateR8 dst (·.getR8 src)) _

theorem ldRMemHl (dst : Reg8) : OpKeeps I R E (ldRMemHl dst) :=
  .read fun _ => k.bind (k.memRead _) fun v => k.returning (k.updateR8 dst fun _ => v) _

theorem ldMemHlR (src : Reg8) : OpKeeps I R E (ldMemHlR src) := .read fun _ => k.returning (k.memWrite _ _) _

theorem ldRD8 (dst : Reg8) (n : Byte) : OpKeeps I R E (ldRD8 dst n) := k.returning (k.updateR8 dst fun _ => n) _

theorem ldMemHlD8 (n : Byte) : OpKeeps I R E (ldMemHlD8 n) := .read fun _ => k.returning (k.memWrite _ _) _

theorem ldAMemRr (rr : Reg16) : OpKeeps I R E (ldAMemRr rr) :=
  .read fun _ => k.loading _ (fun _ _ => k.registers ..) _

theorem ldMemRrA (rr : Reg16) : OpKeeps I R E (ldMemRrA rr) := .read fun _ => k.returning (k.memWrite _ _) _

theorem ldAMemHlStep (delta : Word) : OpKeeps I R E (ldAMemHlStep delta) :=
  .read fun _ => k.bind (k.memRead _) fun _ => k.bind (.update fun _ => k.registers ..) fun _ =>
    k.returning (.update fun _ => k.registers ..) _

theorem ldMemHlStepA (delta : Word) : OpKeeps I R E (ldMemHlStepA delta) :=
  .read fun _ => k.bind (k.memWrite _ _) fun _ => k.returning (.update fun _ => k.registers ..) _

theorem ldAMemA16 (addr : Word) : OpKeeps I R E (ldAMemA16 addr) := k.loading _ (fun _ _ => k.registers ..) _

theorem ldMemA16A (addr : Word) : OpKeeps I R E (ldMemA16A addr) := .read fun _ => k.returning (k.memWrite _ _) _

theorem ldhAMemA8 (n : Byte) : OpKeeps I R E (ldhAMemA8 n) := k.loading _ (fun _ _ => k.registers ..) _

theorem ldhMemA8A (n : Byte) : OpKeeps I R E (ldhMemA8A n) := .read fun _ => k.returning (k.memWrite _ _) _

theorem ldAMemC : OpKeeps I R E ldAMemC := .read fun _ => k.loading _ (fun _ _ => k.registers ..) _

theorem ldMemCA : OpKeeps I R E ldMemCA := .read fun _ => k.returning (k.memWrite _ _) _

theorem ldRrD16 (rr : Reg16) (nn : Word) : OpKeeps I R E (ldRrD16 rr nn) := k.returning (k.updateR16 rr fun _ => nn) _

theorem ldMemA16Sp (addr : Word) : OpKeeps I R E (ldMemA16Sp addr) :=
  .read fun _ => k.returning (k.memWrite16 _ _) _

theorem ldSpHl : OpKeeps I R E ldSpHl := k.returning (.update fun _ => k.registers ..) _

theorem pushRr (rr : Reg16S) : OpKeeps I R E (pushRr rr) := .read fun _ => k.returning (k.push16 _) _

theorem popRr (rr : Reg16S) : OpKeeps I R E (popRr rr) :=
  k.bind k.pop16 fun v => k.returning (k.updateR16S rr fun _ => v) _

/-! Increment and decrement (41_incdec.md): the half-carry is asked for at width 8. -/

theorem incDecFlags (op : KernelOp) (v w : Byte) : OpKeeps I R E (incDecFlags op v w) :=
  k.bind (k.halfCarry op rfl _ _) fun _ => .update fun _ => k.registers ..

theorem incDecR (op : KernelOp) (r : Reg8) : OpKeeps I R E (incDecR op r) :=
  .read fun _ => k.bind (k.updateR8 r fun _ => _) fun _ => k.returning (k.incDecFlags op _ _) _

theorem incDecMemHl (op : KernelOp) : OpKeeps I R E (incDecMemHl op) :=
  .read fun _ => k.bind (k.memRead _) fun _ => k.bind (k.memWrite _ _) fun _ => k.returning (k.incDecFlags op _ _) _

theorem incDecRr (op : KernelOp) (rr : Reg16) : OpKeeps I R E (incDecRr op rr) :=
  k.returning (k.updateR16 rr fun s => apply16 op (s.getR16 rr) [1]) _

/-! Arithmetic and logic (42_alu8.md, 43_alu16.md): the half-carry is asked for at width 8. -/

theorem aluArith (op : KernelOp) (a : Byte) (rights : List Nat) : OpKeeps I R E (aluArith op a rights) :=
  k.bind (k.halfCarry op rfl _ _) fun _ => k.bind (k.setFlags _) fun _ => k.pure _

theorem aluLogic (op : KernelOp) (h : Bool) (a b : Byte) : OpKeeps I R E (aluLogic op h a b) :=
  k.bind (k.setFlags _) fun _ => k.pure _

theorem aluResult (op : AluOp) (a b : Byte) : OpKeeps I R E (aluResult op a b) :=
  .read fun _ => match op with
    | .add | .adc | .sub | .sbc | .cp => k.aluArith _ _ _
    | .and | .xor | .or => k.aluLogic _ _ _ _

theorem aluAccumulate (op : AluOp) (b : Byte) : OpKeeps I R E (aluAccumulate op b) :=
  .read fun _ => k.bind (k.aluResult op _ _) fun _ => .update fun _ => by cases op <;> exact k.registers ..

theorem aluR (op : AluOp) (r : Reg8) : OpKeeps I R E (aluR op r) := .read fun _ => k.returning (k.aluAccumulate op _) _

theorem aluMemHl (op : AluOp) : OpKeeps I R E (aluMemHl op) :=
  .read fun _ => k.bind (k.memRead _) fun _ => k.returning (k.aluAccumulate op _) _

theorem aluD8 (op : AluOp) (n : Byte) : OpKeeps I R E (aluD8 op n) := k.returning (k.aluAccumulate op n) _

theorem addHlRr (rr : Reg16) : OpKeeps I R E (addHlRr rr) :=
  .read fun _ => k.bind (.update fun _ => k.registers ..) fun _ => k.returning (k.setFlags _) _

theorem addSpE8 (e : Byte) : OpKeeps I R E (addSpE8 e) :=
  .read fun _ => k.bind (.update fun _ => k.registers ..) fun _ => k.returning (k.setFlags _) _

theorem ldHlSpE8 (e : Byte) : OpKeeps I R E (ldHlSpE8 e) :=
  .read fun _ => k.bind (.update fun _ => k.registers ..) fun _ => k.returning (k.setFlags _) _

/-! Rotates, shifts and bits (44_rotate_shift.md, 45_bit.md), and PREFIX CB. -/

theorem rotA (op : RotOp) : OpKeeps I R E (rotA op) :=
  .read fun _ => k.bind (.update fun _ => k.registers ..) fun _ => k.returning (k.setFlags _) _

theorem rotR (op : RotOp) (r : Reg8) : OpKeeps I R E (rotR op r) :=
  .read fun _ => k.bind (k.updateR8 r fun _ => _) fun _ => k.returning (k.setFlags _) _

theorem rotMemHl (op : RotOp) : OpKeeps I R E (rotMemHl op) :=
  .read fun _ => k.bind (k.memRead _) fun _ => k.bind (k.memWrite _ _) fun _ => k.returning (k.setFlags _) _

theorem bitR (i : Fin 8) (r : Reg8) : OpKeeps I R E (bitR i r) := k.returning (.update fun _ => k.registers ..) _

theorem bitMemHl (i : Fin 8) : OpKeeps I R E (bitMemHl i) := .read fun _ => k.loading _ (fun _ _ => k.registers ..) _

theorem putBitR (i : Fin 8) (b : Bool) (r : Reg8) : OpKeeps I R E (putBitR i b r) :=
  k.returning (k.updateR8 r fun s => setBit (s.getR8 r) i b) _

theorem putBitMemHl (i : Fin 8) (b : Bool) : OpKeeps I R E (putBitMemHl i b) :=
  .read fun _ => k.bind (k.memRead _) fun _ => k.returning (k.memWrite _ _) _

theorem cbHandlerR (x : Nat) (y : Fin 8) (r : Reg8) : OpKeeps I R E (cbHandlerR x y r) := by
  unfold Machine.cbHandlerR
  split
  · exact k.rotR _ r
  · exact k.bitR y r
  · exact k.putBitR y false r
  · exact k.putBitR y true r

theorem cbHandlerMemHl (x : Nat) (y : Fin 8) : OpKeeps I R E (cbHandlerMemHl x y) := by
  unfold Machine.cbHandlerMemHl
  split
  · exact k.rotMemHl _
  · exact k.bitMemHl y
  · exact k.putBitMemHl y false
  · exact k.putBitMemHl y true

theorem cbHandler (cb : Byte) : OpKeeps I R E (cbHandler cb) := by
  unfold Machine.cbHandler
  split
  · exact k.cbHandlerR _ _ _
  · exact k.cbHandlerMemHl _ _

/-! Control transfer (46_control.md) and the plain instructions of 48_misc.md. -/

theorem jumpTo (target : Word) : OpKeeps I R E (jumpTo target) := .update fun _ => k.registers ..

theorem jumpRelative (e : Byte) : OpKeeps I R E (jumpRelative e) := .update fun _ => k.registers ..

theorem callTo (target : Word) : OpKeeps I R E (callTo target) :=
  .read fun _ => k.bind (k.push16 _) fun _ => k.jumpTo target

theorem returnTo : OpKeeps I R E returnTo := k.bind k.pop16 fun _ => k.jumpTo _

theorem conditional (cc : Cond) {transfer : Op Unit} (h : OpKeeps I R E transfer) (taken notTaken : Nat) :
    OpKeeps I R E (conditional cc transfer taken notTaken) :=
  .read fun _ => by
    split
    · exact k.returning h taken
    · exact k.pure notTaken

theorem jpHl : OpKeeps I R E jpHl := .read fun _ => k.returning (k.jumpTo _) _

theorem daa : OpKeeps I R E daa := k.returning (.update fun _ => k.registers ..) _

theorem cpl : OpKeeps I R E cpl := k.returning (.update fun _ => k.registers ..) _

theorem scf : OpKeeps I R E scf := k.returning (.update fun _ => k.registers ..) _

theorem ccf : OpKeeps I R E ccf := k.returning (.update fun _ => k.registers ..) _

/-! The instructions that write the control fields or raise a fault of their own, under what they need besides. -/

theorem halt (h : ∀ s, R s { s with run := .halted }) : OpKeeps I R E halt := k.returning (.update h) _

theorem di (h : ∀ s, R s { s with ime := false }) : OpKeeps I R E di := k.returning (.update h) _

theorem ei (h : ∀ s, R s { s with ime := true, eiDelay := true }) : OpKeeps I R E ei := k.returning (.update h) _

theorem reti (h : ∀ s pc, R s { s with pc := pc, ime := true }) : OpKeeps I R E reti :=
  k.returning (k.bind k.pop16 fun pc => .update (h · pc)) _

theorem stop (h : ∀ s : State, s.cfg.stopMode = .fault → E (.unimplemented 0x10#8 (s.pc - 1))) :
    OpKeeps I R E stop := by
  intro s hs
  refine from_getState ?_
  split
  · next hm => exact from_raise (k.refl s) (h s hm)
  · exact k.bind k.fetch8 (fun _ => k.pure _) s hs

theorem illegalOpcode (op : Byte) (h : ∀ s : State, E (.illegalOpcode op (s.pc - 1))) :
    OpKeeps I R E (illegalOpcode op) := fun s _ => from_getState (from_raise (k.refl s) (h s))

end KeptByEffects

/-- Every instruction but the six named runs an operation that keeps what the effects keep. -/
theorem exec_keeps_or_control {I : State → Prop} {R : State → State → Prop} {E : Fault → Prop}
    (k : KeptByEffects I R E) : ∀ i : Instr,
    (∃ op, (∀ s, exec i s = handler op s) ∧ OpKeeps I R E op) ∨
      i = .halt ∨ i = .stop ∨ i = .di ∨ i = .ei ∨ i = .reti ∨ ∃ n, i = Instr.illegal n := by
  apply Instr.byFamily
  case ldRR => exact fun x y => .inl ⟨_, exec_ldRR x y, k.ldRR x y⟩
  case ldRMemHl => exact fun x => .inl ⟨_, exec_ldRMemHl x, k.ldRMemHl x⟩
  case ldMemHlR => exact fun x => .inl ⟨_, exec_ldMemHlR x, k.ldMemHlR x⟩
  case ldRD8 => exact fun x y => .inl ⟨_, exec_ldRD8 x y, k.ldRD8 x y⟩
  case ldRrD16 => exact fun x y => .inl ⟨_, exec_ldRrD16 x y, k.ldRrD16 x y⟩
  case incR => exact fun x => .inl ⟨_, exec_incR x, k.incDecR .add x⟩
  case incRr => exact fun x => .inl ⟨_, exec_incRr x, k.incDecRr .add x⟩
  case decR => exact fun x => .inl ⟨_, exec_decR x, k.incDecR .sub x⟩
  case decRr => exact fun x => .inl ⟨_, exec_decRr x, k.incDecRr .sub x⟩
  case aluR => exact fun x y => .inl ⟨_, exec_aluR x y, k.aluR x y⟩
  case aluMemHl => exact fun x => .inl ⟨_, exec_aluMemHl x, k.aluMemHl x⟩
  case aluD8 => exact fun x y => .inl ⟨_, exec_aluD8 x y, k.aluD8 x y⟩
  case addHlRr => exact fun x => .inl ⟨_, exec_addHlRr x, k.addHlRr x⟩
  case rotR => exact fun x y => .inl ⟨_, exec_rotR x y, k.prefixed (k.rotR x y)⟩
  case rotMemHl => exact fun x => .inl ⟨_, exec_rotMemHl x, k.prefixed (k.rotMemHl x)⟩
  case bitR => exact fun i y => .inl ⟨_, exec_bitR i y, k.prefixed (k.bitR i y)⟩
  case bitMemHl => exact fun i => .inl ⟨_, exec_bitMemHl i, k.prefixed (k.bitMemHl i)⟩
  case resR => exact fun i y => .inl ⟨_, exec_resR i y, k.prefixed (k.putBitR i false y)⟩
  case resMemHl => exact fun i => .inl ⟨_, exec_resMemHl i, k.prefixed (k.putBitMemHl i false)⟩
  case setR => exact fun i y => .inl ⟨_, exec_setR i y, k.prefixed (k.putBitR i true y)⟩
  case setMemHl => exact fun i => .inl ⟨_, exec_setMemHl i, k.prefixed (k.putBitMemHl i true)⟩
  case jpCcA16 => exact fun x y => .inl ⟨_, exec_jpCcA16 x y, k.conditional x (k.jumpTo y) _ _⟩
  case jrCcE8 => exact fun x y => .inl ⟨_, exec_jrCcE8 x y, k.conditional x (k.jumpRelative y) _ _⟩
  case callCcA16 => exact fun x y => .inl ⟨_, exec_callCcA16 x y, k.conditional x (k.callTo y) _ _⟩
  case retCc => exact fun x => .inl ⟨_, exec_retCc x, k.conditional x k.returnTo _ _⟩
  case rst => exact fun i => .inl ⟨_, exec_rst i, k.returning (k.callTo _) _⟩
  case pushRr => exact fun x => .inl ⟨_, exec_pushRr x, k.pushRr x⟩
  case popRr => exact fun x => .inl ⟨_, exec_popRr x, k.popRr x⟩
  case ldAMemHlStep => exact fun x => .inl ⟨_, exec_ldAMemHlStep x, k.ldAMemHlStep _⟩
  case ldMemHlStepA => exact fun x => .inl ⟨_, exec_ldMemHlStepA x, k.ldMemHlStepA _⟩
  case nop => exact .inl ⟨nop, fun _ => rfl, k.pure _⟩
  case ldMemBcA => exact .inl ⟨ldMemRrA .bc, fun _ => rfl, k.ldMemRrA .bc⟩
  case ldMemDeA => exact .inl ⟨ldMemRrA .de, fun _ => rfl, k.ldMemRrA .de⟩
  case ldAMemBc => exact .inl ⟨ldAMemRr .bc, fun _ => rfl, k.ldAMemRr .bc⟩
  case ldAMemDe => exact .inl ⟨ldAMemRr .de, fun _ => rfl, k.ldAMemRr .de⟩
  case rlca => exact .inl ⟨rotA .rlc, fun _ => rfl, k.rotA .rlc⟩
  case rrca => exact .inl ⟨rotA .rrc, fun _ => rfl, k.rotA .rrc⟩
  case rla => exact .inl ⟨rotA .rl, fun _ => rfl, k.rotA .rl⟩
  case rra => exact .inl ⟨rotA .rr, fun _ => rfl, k.rotA .rr⟩
  case ldMemA16Sp => exact fun a => .inl ⟨ldMemA16Sp a, fun _ => rfl, k.ldMemA16Sp a⟩
  case jrE8 => exact fun e => .inl ⟨jrE8 e, fun _ => rfl, k.returning (k.jumpRelative e) _⟩
  case daa => exact .inl ⟨daa, fun _ => rfl, k.daa⟩
  case cpl => exact .inl ⟨cpl, fun _ => rfl, k.cpl⟩
  case scf => exact .inl ⟨scf, fun _ => rfl, k.scf⟩
  case ccf => exact .inl ⟨ccf, fun _ => rfl, k.ccf⟩
  case incMemHl => exact .inl ⟨incMemHl, fun _ => rfl, k.incDecMemHl .add⟩
  case decMemHl => exact .inl ⟨decMemHl, fun _ => rfl, k.incDecMemHl .sub⟩
  case ldMemHlD8 => exact fun n => .inl ⟨ldMemHlD8 n, fun _ => rfl, k.ldMemHlD8 n⟩
  case jpA16 => exact fun a => .inl ⟨jpA16 a, fun _ => rfl, k.returning (k.jumpTo a) _⟩
  case callA16 => exact fun a => .inl ⟨callA16 a, fun _ => rfl, k.returning (k.callTo a) _⟩
  case ret => exact .inl ⟨ret, fun _ => rfl, k.returning k.returnTo _⟩
  case prefixCb => exact fun cb => .inl ⟨prefixed (cbHandler cb), fun _ => rfl, k.prefixed (k.cbHandler cb)⟩
  case ldhMemA8A => exact fun n => .inl ⟨ldhMemA8A n, fun _ => rfl, k.ldhMemA8A n⟩
  case ldhAMemA8 => exact fun n => .inl ⟨ldhAMemA8 n, fun _ => rfl, k.ldhAMemA8 n⟩
  case ldMemCA => exact .inl ⟨ldMemCA, fun _ => rfl, k.ldMemCA⟩
  case ldAMemC => exact .inl ⟨ldAMemC, fun _ => rfl, k.ldAMemC⟩
  case addSpE8 => exact fun e => .inl ⟨addSpE8 e, fun _ => rfl, k.addSpE8 e⟩
  case ldHlSpE8 => exact fun e => .inl ⟨ldHlSpE8 e, fun _ => rfl, k.ldHlSpE8 e⟩
  case jpHl => exact .inl ⟨jpHl, fun _ => rfl, k.jpHl⟩
  case ldMemA16A => exact fun a => .inl ⟨ldMemA16A a, fun _ => rfl, k.ldMemA16A a⟩
  case ldAMemA16 => exact fun a => .inl ⟨ldAMemA16 a, fun _ => rfl, k.ldAMemA16 a⟩
  case ldSpHl => exact .inl ⟨ldSpHl, fun _ => rfl, k.ldSpHl⟩
  case halt => exact .inr (by simp)
  case stop => exact .inr (by simp)
  case di => exact .inr (by simp)
  case ei => exact .inr (by simp)
  case reti => exact .inr (by simp)
  case illegal => exact fun n => .inr (by simp)

/-! No instruction enters the kernel assertion (60_exceptions.md R271). -/

/-- A kernel assertion recorded in the second state was recorded in the first. -/
def AssertsOnlyIf (s t : State) : Prop :=
  ∀ w, t.run = .faulted (.kernelAssertion w) → s.run = .faulted (.kernelAssertion w)

/-- The fault is no kernel assertion. -/
def Fault.NoAssertion (f : Fault) : Prop := ∀ w, f ≠ .kernelAssertion w

theorem AssertsOnlyIf.keptByEffects : KeptByEffects (fun _ => True) AssertsOnlyIf Fault.NoAssertion where
  refl _ _ h := h
  trans h1 h2 w h := h1 w (h2 w h)
  carries _ h := h
  registers _ _ _ _ _ _ _ _ _ _ _ _ h := h
  didRead _ _ _ h := h
  didWrite _ _ _ _ h := h
  rejected _ _ h := h
  busError _ _ _ _ _ h := nomatch h

/-- Every instruction runs an operation that records and raises no kernel assertion. -/
theorem exec_assertsOnlyIf (i : Instr) :
    ∃ op, (∀ s, exec i s = handler op s) ∧ OpKeeps (fun _ => True) AssertsOnlyIf Fault.NoAssertion op := by
  have k := AssertsOnlyIf.keptByEffects
  rcases exec_keeps_or_control k i with h | rfl | rfl | rfl | rfl | rfl | ⟨n, rfl⟩
  · exact h
  · exact ⟨halt, fun _ => rfl, k.halt fun _ _ h => nomatch h⟩
  · exact ⟨stop, fun _ => rfl, k.stop fun _ _ _ h => nomatch h⟩
  · exact ⟨di, fun _ => rfl, k.di fun _ _ h => h⟩
  · exact ⟨ei, fun _ => rfl, k.ei fun _ _ h => h⟩
  · exact ⟨reti, fun _ => rfl, k.reti fun _ _ _ h => h⟩
  · exact ⟨_, exec_illegal n, k.illegalOpcode _ fun _ _ h => nomatch h⟩

theorem halfCarry_odd (op : KernelOp) {w : Nat} (hw : w % 2 = 1) (left : Nat) (rights : List Nat) (s : State) :
    halfCarry op w left rights s = .error (.kernelAssertion w) s := by
  rw [halfCarry, if_pos hw, raise_run]

end Sys2Proof.Machine

open Sys2Proof Sys2Proof.Machine

/-- Settles O7: the parity of the width decides, and no operation of an instruction asks for an odd one. -/
theorem kernelAssertionOnlyOnOddWidth : Obligations.KernelAssertionOnlyOnOddWidth := by
  refine ⟨fun op w left rights s => ⟨?_, halfCarry_odd op (by omega) left rights s⟩, fun i s s' w he hrun => ?_⟩
  · rw [halfCarry_even op (by omega), Nat.mul_div_cancel_left w Nat.two_pos]
  · obtain ⟨op, hexec, hop⟩ := exec_assertsOnlyIf i
    rw [hexec] at he
    refine handler_keeps AssertsOnlyIf.keptByEffects.toComposes (hop s trivial) ?_ ?_ he w hrun
    · exact fun _ _ _ h => h
    · intro t f hf v h
      exact absurd (RunState.faulted.inj h) (hf v)
end

section
/-! PROOFS. The register file's views and the zeroed core (10_state.md R22 to R24, R36). -/

namespace Sys2Proof.Machine

theorem Flags.toByte_eq_append (f : Flags) :
    f.toByte = BitVec.ofBool f.z ++ BitVec.ofBool f.n ++ BitVec.ofBool f.h ++ BitVec.ofBool f.c ++ 0#4 := by
  obtain ⟨z, n, h, c⟩ := f
  revert z n h c
  decide

/-- A byte written to F reads back with its low nibble zero (10_state.md R23, R24). -/
theorem Flags.toByte_ofByte (v : Byte) : (Flags.ofByte v).toByte = v &&& 0xF0#8 := by
  revert v
  decide

theorem Flags.ofByte_loByte (v : Word) :
    Flags.ofByte (loByte v) = { z := v.getLsbD 7, n := v.getLsbD 6, h := v.getLsbD 5, c := v.getLsbD 4 } := by
  simp [Flags.ofByte, getBit, loByte]

@[simp] theorem State.getR16_setR16_same (s : State) (r : Reg16) (v : Word) : (s.setR16 r v).getR16 r = v := by
  cases r with
  | sp => rfl
  | bc | de | hl => exact hiByte_append_loByte v

theorem State.getR16S_setR16S_same (s : State) {r : Reg16S} (hr : r ≠ .af) (v : Word) :
    (s.setR16S r v).getR16S r = v := by
  cases r with
  | af => exact absurd rfl hr
  | bc | de | hl => exact hiByte_append_loByte v

theorem State.getR16S_setR16S_af (s : State) (v : Word) : (s.setR16S .af v).getR16S .af = v &&& 0xFFF0#16 := by
  calc hiByte v ++ (Flags.ofByte (loByte v)).toByte
      = (hiByte v &&& 0xFF#8) ++ (loByte v &&& 0xF0#8) := by
        rw [Flags.toByte_ofByte, show 0xFF#8 = BitVec.allOnes 8 from rfl, BitVec.and_allOnes]
    _ = (hiByte v ++ loByte v) &&& (0xFF#8 ++ 0xF0#8) := BitVec.and_append.symm
    _ = v &&& 0xFFF0#16 := by rw [hiByte_append_loByte]; rfl

end Sys2Proof.Machine

open Sys2Proof Sys2Proof.Machine

/-- Settles O8: the accessors are record projections and updates; a pair read back is its two halves put together. -/
theorem pairsAreViews : Obligations.PairsAreViews := by
  intro s n v
  have setAf : s.setR16S .af v = { s with
      a := v.extractLsb' 8 8
      f := { z := v.getLsbD 7, n := v.getLsbD 6, h := v.getLsbD 5, c := v.getLsbD 4 } } := by
    rw [State.setR16S, Flags.ofByte_loByte]; rfl
  exact ⟨⟨rfl, rfl, rfl, rfl, rfl, rfl, rfl⟩, ⟨rfl, rfl, rfl, rfl, rfl, rfl, rfl⟩, ⟨rfl, rfl, rfl, rfl⟩,
    ⟨rfl, rfl, rfl, rfl⟩, ⟨rfl, rfl, rfl, rfl⟩, ⟨rfl, rfl, rfl, setAf⟩, s.f.toByte_eq_append,
    fun r => s.getR8_setR8_same r n, fun r => s.getR16_setR16_same r v, fun r hr => s.getR16S_setR16S_same hr v,
    s.getR16S_setR16S_af v⟩

/-- Settles O9: construction and `reset()` agree on the core's fields. -/
theorem resetZeroesTheCore : Obligations.ResetZeroesTheCore := by
  intro s t ht
  have flags_zero : State.reset.f.toByte = 0x00#8 := by decide
  rcases List.mem_pair.1 ht with rfl | rfl
  all_goals exact ⟨rfl, rfl, rfl, rfl, rfl, rfl, rfl, rfl, rfl, rfl, rfl, flags_zero, rfl, rfl, rfl, rfl, rfl⟩
end

section
/-! PROOFS. The control state (10_state.md R29 to R31): what every instruction keeps of it, that no instruction and no step
of an operational core stops the machine, and the end of eiDelay. -/

namespace Sys2Proof.Machine

/-- What an operation of the instruction `i` keeps of the control state, as `ControlFrame` states it; a fault is its
handler's to record. -/
structure ControlKept (i : Instr) (s t : State) : Prop where
  ime : i ≠ .ei → i ≠ .di → i ≠ .reti → t.ime = s.ime
  eiDelay : i ≠ .ei → t.eiDelay = s.eiDelay
  run : t.run = s.run ∨ (i = .halt ∧ t.run = .halted)
  rejects : t.rejects = s.rejects
  requests : t.requests = s.requests
  cfg : t.cfg = s.cfg
  timerCalls : t.timerCalls = s.timerCalls
  replies : ∃ used, s.replies = used ++ t.replies
  busCalls : ∃ calls, t.busCalls = s.busCalls ++ calls

theorem ControlKept.refl (i : Instr) (s : State) : ControlKept i s s where
  ime _ _ _ := rfl
  eiDelay _ := rfl
  run := .inl rfl
  rejects := rfl
  requests := rfl
  cfg := rfl
  timerCalls := rfl
  replies := ⟨[], rfl⟩
  busCalls := ⟨[], (List.append_nil _).symm⟩

theorem ControlKept.trans {i : Instr} {s t u : State} (h : ControlKept i s t) (k : ControlKept i t u) :
    ControlKept i s u where
  ime he hd hr := (k.ime he hd hr).trans (h.ime he hd hr)
  eiDelay he := (k.eiDelay he).trans (h.eiDelay he)
  run := k.run.elim (fun e => e ▸ h.run) .inr
  rejects := k.rejects.trans h.rejects
  requests := k.requests.trans h.requests
  cfg := k.cfg.trans h.cfg
  timerCalls := k.timerCalls.trans h.timerCalls
  replies := by
    obtain ⟨used, hs⟩ := h.replies
    obtain ⟨more, ht⟩ := k.replies
    exact ⟨used ++ more, by rw [hs, ht, List.append_assoc]⟩
  busCalls := by
    obtain ⟨calls, hs⟩ := h.busCalls
    obtain ⟨more, ht⟩ := k.busCalls
    exact ⟨calls ++ more, by rw [ht, hs, List.append_assoc]⟩

/-- A bus call uses up the next reply, if one is listed. -/
theorem replies_used (s : State) : ∃ used, s.replies = used ++ s.replies.tail := by
  cases s.replies with
  | nil => exact ⟨[], rfl⟩
  | cons r rest => exact ⟨[r], rfl⟩

theorem ControlKept.keptByEffects (i : Instr) :
    KeptByEffects (fun _ => True) (ControlKept i) (fun _ => True) where
  refl := ControlKept.refl i
  trans := ControlKept.trans
  carries _ _ := trivial
  registers s _ _ _ _ _ _ _ _ _ _ := { ControlKept.refl i s with }
  didRead s _ := { ControlKept.refl i s with replies := replies_used s, busCalls := ⟨_, rfl⟩ }
  didWrite s _ _ := { ControlKept.refl i s with replies := replies_used s, busCalls := ⟨_, rfl⟩ }
  rejected s := { ControlKept.refl i s with replies := replies_used s }
  busError _ _ _ _ := trivial

/-- Every instruction runs an operation that keeps its control frame. -/
theorem exec_controlKept (i : Instr) : ∃ op, (∀ s, exec i s = handler op s) ∧
    OpKeeps (fun _ => True) (ControlKept i) (fun _ => True) op := by
  have k := ControlKept.keptByEffects i
  rcases exec_keeps_or_control k i with h | rfl | rfl | rfl | rfl | rfl | ⟨n, rfl⟩
  · exact h
  · exact ⟨halt, fun _ => rfl, k.halt fun s => { ControlKept.refl _ s with run := .inr ⟨rfl, rfl⟩ }⟩
  · exact ⟨stop, fun _ => rfl, k.stop fun _ _ => trivial⟩
  · exact ⟨di, fun _ => rfl, k.di fun s => { ControlKept.refl _ s with ime := fun _ hd => absurd rfl hd }⟩
  · exact ⟨ei, fun _ => rfl, k.ei fun s =>
      { ControlKept.refl _ s with ime := fun he => absurd rfl he, eiDelay := fun he => absurd rfl he }⟩
  · exact ⟨reti, fun _ => rfl, k.reti fun s _ =>
      { ControlKept.refl _ s with ime := fun _ _ hr => absurd rfl hr }⟩
  · exact ⟨_, exec_illegal n, k.illegalOpcode _ fun _ => trivial⟩

/-- What an instruction does, up to its control frame: it reports a count in a state that keeps the frame, or it records a
fault in one. -/
theorem exec_cases {i : Instr} {s s' : State} (h : exec i s = .next s') :
    ∃ t, ControlKept i s t ∧ ((∃ n, s' = t.returns n) ∨ ∃ f, s' = { t.faultedBy f with cycles := none }) := by
  obtain ⟨op, hexec, hop⟩ := exec_controlKept i
  rw [hexec] at h
  rcases handler_cases op s with ⟨n, t, ho, e⟩ | ⟨f, t, ho, e⟩
  · exact ⟨t, (hop s trivial).1 n t ho, .inl ⟨n, Host.Outcome.next.inj (h.symm.trans e)⟩⟩
  · exact ⟨t, ((hop s trivial).2 f t ho).1, .inr ⟨f, Host.Outcome.next.inj (h.symm.trans e)⟩⟩

theorem exec_next (i : Instr) (s : State) : ∃ t, exec i s = .next t := by
  obtain ⟨op, hexec⟩ := exec_handler i
  rw [hexec]
  rcases handler_cases op s with ⟨n, t, -, e⟩ | ⟨f, t, -, e⟩ <;> exact ⟨_, e⟩

theorem settle_next {α : Type} (op : Op α) (s : State) : ∃ t, settle op s = .next t := by
  rcases settle_cases op s with ⟨v, t, -, e⟩ | ⟨f, t, -, e⟩ <;> exact ⟨_, e⟩

theorem execute_next (s : State) : ∃ t, execute s = .next t := by
  unfold execute
  split
  · exact exec_next _ _
  · exact ⟨_, rfl⟩

theorem runningIteration_next (s : State) : ∃ t, runningIteration s = .next t := by
  obtain ⟨t, ht⟩ := execute_next s.beginIteration
  unfold runningIteration
  simp only [ht]
  cases t.cycles with
  | some n => exact settle_next _ _
  | none => exact ⟨t, rfl⟩

theorem step_next {s : State} (h : s.run.operational = true) : ∃ t, step s = .next t := by
  unfold step iteration
  cases hr : s.run with
  | running => exact runningIteration_next s
  | halted => exact settle_next _ _
  | faulted f => rw [hr] at h; exact absurd h Bool.false_ne_true

/-- A weaker relation holds of the same ends. -/
theorem OpFrom.imp {α : Type} {R Q : State → State → Prop} {E : Fault → Prop} {s : State} {op : Op α}
    (h : OpFrom R E s op) (hQ : ∀ t, R s t → Q s t) : OpFrom Q E s op :=
  ⟨fun v t e => hQ t (h.1 v t e), fun f t e => (h.2 f t e).imp_left (hQ t)⟩

/-- What holds of every state an operation can end in, and is not undone by recording a fault, holds after it is settled. -/
theorem settle_post {α : Type} {P : State → Prop} {E : Fault → Prop} {s s' : State} {op : Op α}
    (h : OpFrom (fun _ t => P t) E s op) (hfault : ∀ t f, P t → P (t.faultedBy f)) (e : settle op s = .next s') :
    P s' := by
  rcases settle_cases op s with ⟨v, t, ho, hh⟩ | ⟨f, t, ho, hh⟩ <;> cases hh.symm.trans e
  · exact h.1 v _ ho
  · exact hfault t f (h.2 f t ho).1

/-- eiDelay is as it was. -/
def KeepsEiDelay (s t : State) : Prop := t.eiDelay = s.eiDelay

theorem KeepsEiDelay.keptByEffects : KeptByEffects (fun _ => True) KeepsEiDelay (fun _ => True) where
  refl _ := rfl
  trans h k := k.trans h
  carries _ _ := trivial
  registers _ _ _ _ _ _ _ _ _ _ _ := rfl
  didRead _ _ := rfl
  didWrite _ _ _ := rfl
  rejected _ := rfl
  busError _ _ _ _ := trivial

theorem timerInc_keepsEiDelay (n : Nat) : OpKeeps (fun _ => True) KeepsEiDelay (fun _ => True) (timerInc n) :=
  .update fun _ => State.deviceRequests_eiDelay _

theorem service_keepsEiDelay (k : Source) (iflag : Byte) :
    OpKeeps (fun _ => True) KeepsEiDelay (fun _ => True) (service k iflag) :=
  have e := KeepsEiDelay.keptByEffects
  e.bind (.update fun _ => rfl) fun _ => .read fun _ => e.bind (e.memWrite _ _) fun _ => .read fun _ =>
    e.bind (e.push16 _) fun _ => e.bind (.update fun _ => rfl) fun _ => timerInc_keepsEiDelay 5

theorem serviceFirst_keepsEiDelay (ie iflag : Byte) :
    OpKeeps (fun _ => True) KeepsEiDelay (fun _ => True) (serviceFirst ie iflag) := by
  unfold serviceFirst
  split
  · exact service_keepsEiDelay _ _
  · exact KeepsEiDelay.keptByEffects.pure _

theorem haltedPoll_keepsEiDelay : OpKeeps (fun _ => True) KeepsEiDelay (fun _ => True) haltedPoll := by
  have e := KeepsEiDelay.keptByEffects
  refine e.bind (timerInc_keepsEiDelay 1) fun _ => .read fun _ => e.bind (e.memRead _) fun _ =>
    e.bind (e.memRead _) fun _ => ?_
  split
  · exact e.pure _
  · refine e.bind (.update fun _ => rfl) fun _ => ?_
    split
    · exact serviceFirst_keepsEiDelay _ _
    · exact e.pure _

/-- The check clears eiDelay or finds it false and leaves it (60_exceptions.md R282). -/
theorem interruptCheck_eiDelay (s : State) :
    OpFrom (fun _ t => t.eiDelay = false) (fun _ => True) s interruptCheck := by
  have e := KeepsEiDelay.keptByEffects
  refine from_getState ?_
  split
  · exact from_updateState rfl
  · next hdelay =>
    refine OpFrom.imp (R := KeepsEiDelay) ?_ fun t ht => ht.trans (Bool.eq_false_iff.2 hdelay)
    split
    · exact e.bind (e.memRead _) (fun _ => e.bind (e.memRead _) fun _ => serviceFirst_keepsEiDelay _ _) s trivial
    · exact e.pure () s trivial

/-- What follows an instruction ends with eiDelay false when the core is Running or eiDelay was false. -/
theorem afterInstruction_eiDelay {s s' : State} {n : Nat} (h : settle (afterInstruction n) s = .next s')
    (hs : s.run = .running ∨ s.eiDelay = false) : s'.eiDelay = false := by
  rw [afterInstruction, settle_bind_ok (timerInc_run n s)] at h
  refine settle_post (P := fun t => t.eiDelay = false) (E := fun _ => True) ?_ (fun _ _ ht => ht) h
  have run_timed : (s.timed n).run = s.run := State.deviceRequests_run _
  have eiDelay_timed : (s.timed n).eiDelay = s.eiDelay := State.deviceRequests_eiDelay _
  refine from_getState ?_
  split
  · exact interruptCheck_eiDelay _
  · next hrun => exact from_pure (eiDelay_timed.trans (hs.resolve_left fun e => hrun (run_timed.trans e))) ()

/-- EI reports its count and writes IME and eiDelay alone (48_misc.md R258). -/
theorem exec_ei (s : State) : exec .ei s = .next (State.returns { s with ime := true, eiDelay := true } 1) := rfl

/-- An instruction run with eiDelay false either leaves it false or is EI, which reports its count in the run state it
found. -/
theorem exec_eiDelay {i : Instr} {s s' : State} (h : exec i s = .next s') (hs : s.eiDelay = false) :
    s'.eiDelay = false ∨ (s'.cycles = some 1 ∧ s'.run = s.run) := by
  by_cases hi : i = .ei
  · subst hi
    cases (exec_ei s).symm.trans h
    exact .inr ⟨rfl, rfl⟩
  · obtain ⟨t, k, ⟨n, rfl⟩ | ⟨f, rfl⟩⟩ := exec_cases h
    all_goals exact .inl ((k.eiDelay hi).trans hs)

/-- A rejected fetch keeps eiDelay. -/
theorem fetchInstr_error_eiDelay {s t : State} {f : Fault} (h : fetchInstr s = .error f t) : t.eiDelay = s.eiDelay := by
  obtain ⟨k, -, -, rfl⟩ := fetchInstr_error h
  exact State.afterFetch_eiDelay s k

end Sys2Proof.Machine

open Sys2Proof Sys2Proof.Machine

/-- Settles O60: the operation keeps the frame, and its handler reports a count or records a fault. -/
theorem controlFrame : Obligations.ControlFrame := by
  intro i s s' h
  obtain ⟨t, k, ⟨n, rfl⟩ | ⟨f, rfl⟩⟩ := exec_cases h
  · exact ⟨k.ime, k.eiDelay, k.run.imp_right .inl, k.rejects, k.requests, k.cfg, k.timerCalls, k.replies, k.busCalls⟩
  · exact ⟨k.ime, k.eiDelay, .inr (.inr ⟨rfl, f, rfl⟩), k.rejects, k.requests, k.cfg, k.timerCalls, k.replies,
      k.busCalls⟩

/-- Settles O54: every arm is a handler, and handlers and settled operations always give a next state. -/
theorem everyStepCompletes : Obligations.EveryStepCompletes := ⟨exec_next, fun _ => step_next⟩

/-- Settles O56, by the cases of a step: only EI sets eiDelay, in a Running core, and the check after it clears it. -/
theorem eiDelayEndsWithIteration : Obligations.EiDelayEndsWithIteration := by
  intro s s' hs h
  rcases step_cases h with ⟨-, hpoll⟩ | ⟨hrun, ⟨f, t, hfetch, rfl⟩ | ⟨i, t, u, hfetch, hexec, hafter⟩⟩
  · exact (settle_keeps KeepsEiDelay.keptByEffects.toComposes (haltedPoll_keepsEiDelay _ trivial)
      (fun _ _ _ => rfl) hpoll).trans hs
  · exact (fetchInstr_error_eiDelay hfetch).trans hs
  · obtain ⟨-, -, -, rfl⟩ := fetchInstr_ok hfetch
    have hu := exec_eiDelay hexec ((State.afterFetch_eiDelay _ _).trans hs)
    rcases hafter with ⟨hnone, rfl⟩ | ⟨n, -, hafter⟩
    · exact hu.resolve_right fun ⟨hsome, _⟩ => by rw [hnone] at hsome; cases hsome
    · refine afterInstruction_eiDelay hafter (hu.symm.imp_left fun ⟨_, hkept⟩ => ?_)
      exact hkept.trans ((State.afterFetch_run _ _).trans hrun)

end

section
/-! PROOFS. The host call `step()` is Execute() alone (60_exceptions.md R289): what is fetched and decoded, and what the
call keeps. -/

namespace Sys2Proof.Machine

/-- Decoding three bytes uses the bytes that `Execute()` fetches and no other; STOP's second byte is not looked at
(30_encoding.md R70, 48_misc.md R256). -/
theorem decodeBytes_fetched {op b1 b2 : Byte} {i : Instr} {rest : List Byte} (h : decode [op, b1, b2] = .ok (i, rest)) :
    decodeBytes op (if 2 ≤ fetchedBytes op then b1 else 0#8) (if 3 ≤ fetchedBytes op then b2 else 0#8) = i := by
  by_cases hstop : op = 0x10#8
  · subst hstop
    cases (decode_two (by decide) b1 [b2]).symm.trans h
    rfl
  · have hn : fetchedBytes op = instrLength op - 1 + 1 := by rw [fetchedBytes, operandFetches, if_neg hstop]
    rcases instrLength_cases op with hl | hl | hl <;> rw [hl] at hn <;> rw [hn]
    · cases (decode_one hl [b1, b2]).symm.trans h; rfl
    · cases (decode_two hl b1 [b2]).symm.trans h; rfl
    · cases (decode_three hl b1 b2 []).symm.trans h; rfl

theorem execute_of_fetch {s t : State} {i : Instr} (h : fetchInstr s = .ok i t) : execute s = exec i t := by
  unfold execute; rw [h]

theorem execute_of_fetch_error {s t : State} {f : Fault} (h : fetchInstr s = .error f t) :
    execute s = .next { t.faultedBy f with cycles := none } := by
  unfold execute; rw [h]

theorem State.fetchedByte_zero (s : State) : s.fetchedByte 0 = s.readValue s.pc := by
  unfold State.fetchedByte
  rw [BitVec.add_zero]; rfl

/-- The first fetch is a read at PC, and what it returns is the bus's answer there. -/
theorem State.canFetch_zero {s : State} : s.CanFetch 0 ↔ s.Readable s.pc := by
  unfold State.CanFetch
  rw [BitVec.add_zero]; rfl

/-- With every byte's fetch accepted, `Execute()` runs the instruction that the bytes at PC decode to. -/
theorem execute_decoded {s : State} {i : Instr} {rest : List Byte}
    (hdecode : decode [s.fetchedByte 0, s.fetchedByte 1, s.fetchedByte 2] = .ok (i, rest))
    (hfetch : ∀ k, k < fetchedBytes (s.fetchedByte 0) → s.CanFetch k) :
    execute s.beginIteration = exec i (s.fetched (fetchedBytes (s.fetchedByte 0))) := by
  rw [s.fetchedByte_zero] at hdecode hfetch ⊢
  rcases fetchInstr_cases s.beginIteration with ⟨-, hok⟩ | ⟨k, hk, -, hrejected, -⟩
  · rw [execute_of_fetch hok]
    exact congrArg (exec · _) (decodeBytes_fetched hdecode)
  · exact absurd (hfetch k hk) hrejected

/-- The first byte whose fetch is rejected ends `Execute()` with the BusError at its address (60_exceptions.md R272). -/
theorem execute_fetch_rejected {s : State} {k : Nat} (hk : k < fetchedBytes (s.fetchedByte 0))
    (hbefore : ∀ j, j < k → s.CanFetch j) (hrejected : ¬ s.CanFetch k) :
    execute s.beginIteration = .next ((s.fetched k).busFault (s.pc + BitVec.ofNat 16 k) .read) := by
  rw [s.fetchedByte_zero] at hk
  rcases fetchInstr_cases s.beginIteration with ⟨hall, -⟩ | ⟨m, -, hbefore', hrejected', herror⟩
  · exact absurd (hall k hk) hrejected
  · obtain rfl : m = k := by
      rcases Nat.lt_trichotomy m k with hlt | heq | hgt
      · exact absurd (hbefore m hlt) hrejected'
      · exact heq
      · exact absurd (hbefore' k hgt) hrejected
    rw [execute_of_fetch_error herror]
    rfl

/-- `Execute()` makes no Timer call and takes no device request (60_exceptions.md R289). -/
theorem execute_keeps_timer {s t : State} (h : execute s = .next t) :
    t.timerCalls = s.timerCalls ∧ t.requests = s.requests := by
  cases hf : fetchInstr s with
  | ok i u =>
    obtain ⟨-, -, -, rfl⟩ := fetchInstr_ok hf
    rw [execute_of_fetch hf] at h
    obtain ⟨v, k, ⟨n, rfl⟩ | ⟨f, rfl⟩⟩ := exec_cases h
    all_goals exact ⟨k.timerCalls.trans (State.afterFetch_timerCalls _ _), k.requests.trans (State.afterFetch_requests _ _)⟩
  | error f u =>
    obtain ⟨k, -, -, rfl⟩ := fetchInstr_error hf
    cases (execute_of_fetch_error hf).symm.trans h
    exact ⟨State.afterFetch_timerCalls _ _, State.afterFetch_requests _ _⟩

theorem hostStep_running {s : State} (h : s.run = .running) : hostStep s = execute s.beginIteration := by
  unfold hostStep; rw [h]

theorem hostStep_refused {s : State} (h : s.run ≠ .running) : hostStep s = .refused .stepNotRunning := by
  unfold hostStep
  cases hr : s.run with
  | running => exact absurd hr h
  | halted | faulted f => rfl

theorem step_faulted {s : State} {f : Fault} (h : s.run = .faulted f) : step s = .fault f := by
  unfold step iteration; rw [h]

end Sys2Proof.Machine

open Sys2Proof Sys2Proof.Machine

/-- Settles O52: `step()` is refused or is Execute(), whose fetch completes or ends at its first rejected byte. -/
theorem faultedIsTerminal : Obligations.FaultedIsTerminal := by
  intro s n
  have decoded {i rest} (hrun : s.run = .running)
      (hdecode : decode [s.fetchedByte 0, s.fetchedByte 1, s.fetchedByte 2] = .ok (i, rest))
      (hfetch : ∀ k, k < n → s.CanFetch k) : hostStep s = exec i (s.fetched n) :=
    (hostStep_running hrun).trans (execute_decoded hdecode hfetch)
  refine ⟨fun f => step_faulted, hostStep_refused, fun hrun => ?_, fun i rest => decoded,
    fun k hrun hk hbefore hrejected => ?_, fun hrun hread hbyte => ?_⟩
  · obtain ⟨t, ht⟩ := execute_next s.beginIteration
    exact ⟨t, (hostStep_running hrun).trans ht, execute_keeps_timer ht⟩
  · exact (hostStep_running hrun).trans (execute_fetch_rejected hk hbefore hrejected)
  · have hop : s.fetchedByte 0 = 0xFB#8 := s.fetchedByte_zero.trans hbyte
    have hn : n = 1 := congrArg fetchedBytes hop
    have hdecode : decode [s.fetchedByte 0, s.fetchedByte 1, s.fetchedByte 2] =
        .ok (.ei, [s.fetchedByte 1, s.fetchedByte 2]) := by rw [hop]; rfl
    have hfetch : ∀ k, k < n → s.CanFetch k := fun k hk => by
      obtain rfl : k = 0 := by omega
      exact State.canFetch_zero.2 hread
    refine ⟨_, (decoded hrun hdecode hfetch).trans (exec_ei _), rfl, rfl, ?_⟩
    rw [hn]; rfl
end

section
/-! PROOFS. The host calls `loadState` and `dumpState` (10_state.md R33): their bus calls, completed or rejected, and what a
dump reads back after a load. -/

namespace Sys2Proof.Machine

/-! The bus calls in listed order, on every bus. -/

theorem writePairs_ok {s : State} {cells : List (Word × Byte)} (h : s.acceptsWrites cells = true) :
    writePairs cells s = .ok () (s.didWrites cells) := by
  induction cells generalizing s with
  | nil => rfl
  | cons cell rest ih =>
    obtain ⟨hcell, hrest⟩ := Bool.and_eq_true_iff.1 h
    exact (op_bind_ok (memWrite_ok hcell)).trans (ih hrest)

theorem writePairs_rejected {s : State} {before : List (Word × Byte)} {addr : Word} (v : Byte)
    (after : List (Word × Byte)) (h : s.acceptsWrites before = true) (hrejected : ¬ (s.didWrites before).Writable addr) :
    writePairs (before ++ (addr, v) :: after) s = .error (.busError addr .write) (s.didWrites before).rejected := by
  induction before generalizing s with
  | nil => exact op_bind_error (memWrite_rejected hrejected)
  | cons cell rest ih =>
    obtain ⟨hcell, hrest⟩ := Bool.and_eq_true_iff.1 h
    exact (op_bind_ok (memWrite_ok hcell)).trans (ih hrest hrejected)

theorem readPairs_ok {s : State} {addrs : List Word} (h : s.acceptsReads addrs = true) :
    readPairs addrs s = .ok (s.readValues addrs) (s.didReads addrs) := by
  induction addrs generalizing s with
  | nil => rfl
  | cons addr rest ih =>
    obtain ⟨haddr, hrest⟩ := Bool.and_eq_true_iff.1 h
    exact (op_bind_ok (memRead_ok haddr)).trans (op_bind_ok (ih hrest))

theorem readPairs_rejected {s : State} {before : List Word} {addr : Word} (after : List Word)
    (h : s.acceptsReads before = true) (hrejected : ¬ (s.didReads before).Readable addr) :
    readPairs (before ++ addr :: after) s = .error (.busError addr .read) (s.didReads before).rejected := by
  induction before generalizing s with
  | nil => exact op_bind_error (memRead_rejected hrejected)
  | cons first rest ih =>
    obtain ⟨hfirst, hrest⟩ := Bool.and_eq_true_iff.1 h
    exact (op_bind_ok (memRead_ok hfirst)).trans (op_bind_error (ih hrest hrejected))

/-- The registers of a fixture written to the core; `f[3:0]` is discarded (10_state.md R33). -/
def State.withRegisters (s : State) (fx : Fixture) : State :=
  { s with
    pc := fx.pc, sp := fx.sp, a := fx.a, b := fx.b, c := fx.c, d := fx.d, e := fx.e
    f := Flags.ofByte fx.f, h := fx.h, l := fx.l }

/-- The registers of the core with a list of bytes read from the bus (10_state.md R33). -/
def State.toFixture (s : State) (ram : List (Word × Byte)) : Fixture :=
  { pc := s.pc, sp := s.sp, a := s.a, b := s.b, c := s.c, d := s.d, e := s.e, f := s.f.toByte, h := s.h, l := s.l
    ram := ram }

theorem loadState_eq (fx : Fixture) (s : State) : loadState fx s = writePairs fx.ram (s.withRegisters fx) := rfl

theorem dumpState_ok {s : State} {addrs : List Word} (h : s.acceptsReads addrs = true) :
    dumpState addrs s = .ok (s.toFixture (s.readValues addrs)) (s.didReads addrs) :=
  (op_bind_ok (getState_run s)).trans (op_bind_ok (readPairs_ok h))

theorem dumpState_rejected {s : State} {before : List Word} {addr : Word} (after : List Word)
    (h : s.acceptsReads before = true) (hrejected : ¬ (s.didReads before).Readable addr) :
    dumpState (before ++ addr :: after) s = .error (.busError addr .read) (s.didReads before).rejected :=
  (op_bind_ok (getState_run s)).trans (op_bind_error (readPairs_rejected after h hrejected))

/-! A bus that never fails accepts every list of calls. -/

theorem State.BusNeverFails.accepts {s : State} (h : s.BusNeverFails) (site : BusSite) : s.accepts site = true := by
  obtain ⟨hrejects, hreplies⟩ := h
  unfold State.accepts State.reply
  cases hr : s.replies with
  | nil => simp [hrejects]
  | cons r rest =>
    have hr' : r.fails = false := hreplies r (hr ▸ List.mem_cons_self)
    match r, hr' with
    | .asMemory, _ => simp [hrejects]
    | .platform (some _) _, _ => rfl

/-- A bus that never fails goes on so after a call. -/
theorem State.BusNeverFails.afterCall {s t : State} (h : s.BusNeverFails) (hrejects : t.rejects = s.rejects)
    (hreplies : t.replies = s.replies.tail) : t.BusNeverFails :=
  ⟨hrejects.trans h.1, fun r hr => h.2 r (List.mem_of_mem_tail (hreplies ▸ hr))⟩

theorem State.BusNeverFails.didWrite {s : State} (h : s.BusNeverFails) (addr : Word) (v : Byte) :
    (s.didWrite addr v).BusNeverFails := h.afterCall rfl rfl

theorem State.BusNeverFails.didRead {s : State} (h : s.BusNeverFails) (addr : Word) : (s.didRead addr).BusNeverFails :=
  h.afterCall rfl rfl

theorem State.BusNeverFails.didWrites {s : State} (h : s.BusNeverFails) (cells : List (Word × Byte)) :
    (s.didWrites cells).BusNeverFails := by
  induction cells generalizing s with
  | nil => exact h
  | cons cell rest ih => exact ih (h.didWrite cell.1 cell.2)

theorem State.BusNeverFails.acceptsWrites {s : State} (h : s.BusNeverFails) (cells : List (Word × Byte)) :
    s.acceptsWrites cells = true := by
  induction cells generalizing s with
  | nil => rfl
  | cons cell rest ih => exact Bool.and_eq_true_iff.2 ⟨h.accepts _, ih (h.didWrite _ _)⟩

theorem State.BusNeverFails.acceptsReads {s : State} (h : s.BusNeverFails) (addrs : List Word) :
    s.acceptsReads addrs = true := by
  induction addrs generalizing s with
  | nil => rfl
  | cons addr rest ih => exact Bool.and_eq_true_iff.2 ⟨h.accepts _, ih (h.didRead _)⟩

/-- Completed writes touch memory, the replies and the record of calls, nothing else (20_memory.md R58). -/
theorem State.didWrites_eq (s : State) (cells : List (Word × Byte)) : ∃ (m : Memory) (replies : List BusReply),
    s.didWrites cells =
      { s with mem := m, replies := replies, busCalls := s.busCalls ++ cells.map fun p => ⟨.write, p.1, p.2⟩ } := by
  induction cells generalizing s with
  | nil => exact ⟨s.mem, s.replies, by rw [List.map_nil, List.append_nil]; rfl⟩
  | cons cell rest ih =>
    obtain ⟨m, replies, h⟩ := ih (s.didWrite cell.1 cell.2)
    refine ⟨m, replies, h.trans ?_⟩
    rw [State.didWrite_busCalls, List.append_assoc]
    rfl

/-! On the memory a write stores its byte and a read changes none (20_memory.md R64). -/

theorem Memory.read_unlisted {m : Memory} {addr : Nat} (h : ∀ cell ∈ m, addr < cell.1) : m.read addr = Memory.blank := by
  induction m with
  | nil => rfl
  | cons top rest ih =>
    rw [Memory.read, if_neg (h top List.mem_cons_self).ne]
    exact ih fun cell hc => h cell (List.mem_cons_of_mem _ hc)

/-- A byte stored is read back, the others as before; the canonical form is what makes dropping a blank entry right. -/
theorem Memory.read_write {m : Memory} (hm : m.wf) (addr : Nat) (v : Byte) (other : Nat) :
    (m.write addr v).read other = if other = addr then v else m.read other := by
  induction m with
  | nil => by_cases hv : v = Memory.blank <;> simp [Memory.write, Memory.read, hv]
  | cons top rest ih =>
    obtain ⟨k, w⟩ := top
    obtain ⟨hsorted, hcells⟩ := hm
    obtain ⟨hk, hrest⟩ := List.pairwise_cons.1 hsorted
    rcases Nat.lt_trichotomy addr k with hlt | rfl | hgt
    · have unlisted : Memory.read ((k, w) :: rest) addr = Memory.blank :=
        Memory.read_unlisted fun cell hc => (List.mem_cons.1 hc).elim (fun e => e ▸ hlt) fun h => hlt.trans (hk cell h)
      rw [Memory.write, if_pos hlt]
      split
      · next hv => by_cases ho : other = addr <;> simp [ho, hv, unlisted]
      · rfl
    · have unlisted : Memory.read rest addr = Memory.blank := Memory.read_unlisted hk
      rw [Memory.write, if_neg (lt_irrefl addr), if_pos rfl]
      split
      · next hv => by_cases ho : other = addr <;> simp [Memory.read, ho, hv, unlisted]
      · by_cases ho : other = addr <;> simp [Memory.read, ho]
    · rw [Memory.write, if_neg (by omega), if_neg (by omega), Memory.read, Memory.read,
        ih ⟨hrest, fun cell hc => hcells cell (List.mem_cons_of_mem _ hc)⟩]
      by_cases ho : other = k
      · rw [if_pos ho, if_neg (by omega), if_pos ho]
      · rw [if_neg ho, if_neg ho]

theorem Memory.read_storeAll {m : Memory} (hm : m.wf) (cells : List (Word × Byte)) (addr : Word) :
    (m.storeAll cells).read addr.toNat =
      ((cells.reverse.find? fun p => p.1 = addr).map (·.2)).getD (m.read addr.toNat) := by
  induction cells generalizing m with
  | nil => rfl
  | cons cell rest ih =>
    obtain ⟨a, v⟩ := cell
    rw [Memory.storeAll, ih (Memory.write_wf hm a.isLt), Memory.read_write hm, List.reverse_cons, List.find?_append]
    cases rest.reverse.find? fun p => p.1 = addr with
    | some p => rfl
    | none =>
      by_cases h : a = addr
      · simp [h]
      · have h' : addr.toNat ≠ a.toNat := fun e => h (BitVec.eq_of_toNat_eq e.symm)
        simp [h, h']

theorem State.BusIsMemory.didWrite {s : State} (h : s.BusIsMemory) (addr : Word) (v : Byte) :
    (s.didWrite addr v).BusIsMemory := h.next.2

theorem State.BusIsMemory.didRead {s : State} (h : s.BusIsMemory) (addr : Word) : (s.didRead addr).BusIsMemory := h.next.2

theorem State.BusIsMemory.didWrites {s : State} (h : s.BusIsMemory) (cells : List (Word × Byte)) :
    (s.didWrites cells).BusIsMemory ∧ (s.didWrites cells).mem = s.mem.storeAll cells := by
  induction cells generalizing s with
  | nil => exact ⟨h, rfl⟩
  | cons cell rest ih =>
    obtain ⟨hbus, hmem⟩ := ih (h.didWrite cell.1 cell.2)
    refine ⟨hbus, hmem.trans ?_⟩
    rw [State.didWrite_mem, (State.reply_asMemory h.next.1 cell.1 _).2.1]
    rfl

theorem State.BusIsMemory.didReads {s : State} (h : s.BusIsMemory) (addrs : List Word) :
    (s.didReads addrs).mem = s.mem ∧ s.readValues addrs = addrs.map fun a => (a, s.byteAt a) := by
  induction addrs generalizing s with
  | nil => exact ⟨rfl, rfl⟩
  | cons addr rest ih =>
    obtain ⟨hmem, hvalues⟩ := ih (h.didRead addr)
    obtain ⟨hread, hcall, -⟩ := State.reply_asMemory h.next.1 addr []
    have mem_didRead : (s.didRead addr).mem = s.mem := hcall
    refine ⟨hmem.trans mem_didRead, ?_⟩
    rw [State.readValues, hvalues, hread, List.map_cons]
    simp only [State.byteAt, mem_didRead]

/-- What a dump reads of the registers after a load: F's low nibble is zero (10_state.md R24, R33). -/
theorem State.toFixture_withRegisters (s : State) (fx : Fixture) (ram : List (Word × Byte)) :
    (s.withRegisters fx).toFixture ram = { fx with f := fx.f &&& 0xF0#8, ram := ram } := by
  rw [← Flags.toByte_ofByte]; rfl

end Sys2Proof.Machine

open Sys2Proof Sys2Proof.Machine

/-- Settles O13: the registers are written, or read, with no call, and the list is run through in order. -/
theorem loadAndDumpCalls : Obligations.LoadAndDumpCalls := by
  intro fx s addrs loaded
  refine ⟨writePairs_ok, fun before addr v after hram => ?_, dumpState_ok, fun before addr after haddrs => ?_⟩
  · rw [loadState_eq, hram]
    exact writePairs_rejected v after
  · rw [haddrs]
    exact dumpState_rejected after

/-- Settles O12: every call is accepted, the writes keep the core's fields, and on the memory each stores its byte. -/
theorem loadThenDumpRegisters : Obligations.LoadThenDumpRegisters := by
  intro fx s hbus
  have hloaded : (s.withRegisters fx).BusNeverFails := hbus
  obtain ⟨m, replies, ht⟩ := (s.withRegisters fx).didWrites_eq fx.ram
  have registers_kept (ram : List (Word × Byte)) : ((s.withRegisters fx).didWrites fx.ram).toFixture ram =
      { fx with f := fx.f &&& 0xF0#8, ram := ram } := by
    rw [ht, ← s.toFixture_withRegisters]; rfl
  refine ⟨(s.withRegisters fx).didWrites fx.ram, writePairs_ok (hloaded.acceptsWrites _), by rw [ht]; rfl, by rw [ht]; rfl,
    by rw [ht]; rfl, by rw [ht]; rfl, ?_, fun hwf hmemory => ?_⟩
  · rw [dumpState_ok rfl, registers_kept]; rfl
  · have hloadedMemory : (s.withRegisters fx).BusIsMemory := hmemory
    obtain ⟨hafter, hmem⟩ := hloadedMemory.didWrites fx.ram
    refine ⟨fun addr => ?_, fun addrs => ?_⟩
    · rw [State.byteAt, hmem, Memory.read_storeAll (m := (s.withRegisters fx).mem) hwf]
      cases fx.ram.reverse.find? fun p => p.1 = addr <;> rfl
    · obtain ⟨hkept, hvalues⟩ := hafter.didReads addrs
      refine ⟨_, (dumpState_ok ((hloaded.didWrites _).acceptsReads addrs)).trans ?_, hkept⟩
      rw [registers_kept, hvalues]
end

section
/-! PROOFS. The register and flag frames (10_state.md R26 to R28, R34): the footprint of each operation, and that the
instruction that runs it has the same one. -/

namespace Sys2Proof

/-- The 8-bit registers that make a 16-bit operand; SP is none (10_state.md R22). -/
def Reg16.halves : Reg16 → List Reg8
  | .bc => [.b, .c]
  | .de => [.d, .e]
  | .hl => [.h, .l]
  | .sp => []

/-- The 8-bit registers that make a stack operand; the other half of AF is the flags (10_state.md R22). -/
def Reg16S.halves : Reg16S → List Reg8
  | .bc => [.b, .c]
  | .de => [.d, .e]
  | .hl => [.h, .l]
  | .af => [.a]

end Sys2Proof

namespace Sys2Proof.Machine

/-- No flag is written. -/
def Flags.none : Flags := { z := false, n := false, h := false, c := false }

/-- The flags written by the shifts and the ALU operations. -/
def Flags.all : Flags := { z := true, n := true, h := true, c := true }

/-- The flags written by INC, DEC and BIT. -/
def Flags.butC : Flags := { z := true, n := true, h := true, c := false }

/-- The flags written by ADD HL, SCF and CCF. -/
def Flags.butZ : Flags := { z := false, n := true, h := true, c := true }

/-- What may be written of the register file: 8-bit registers, SP, PC, flags. -/
structure Footprint where
  regs : List Reg8 := []
  sp : Bool := false
  pc : Bool := false
  flags : Flags := .none

/-- The footprint of an instruction, put together from Footprint.lean. -/
def footprint (i : Instr) (cfg : Config) : Footprint := ⟨destR8 i, writesSp i, writesPc i, flagsWritten i cfg⟩

/-- Each flag outside the written ones is the same in both. -/
structure Flags.KeptOutside (written f g : Flags) : Prop where
  z : written.z = false → g.z = f.z
  n : written.n = false → g.n = f.n
  h : written.h = false → g.h = f.h
  c : written.c = false → g.c = f.c

/-- What the footprint leaves out of the register file is the same in both states. -/
structure Footprint.Keeps (W : Footprint) (s t : State) : Prop where
  regs : ∀ r, r ∉ W.regs → t.getR8 r = s.getR8 r
  sp : W.sp = false → t.sp = s.sp
  pc : W.pc = false → t.pc = s.pc
  flags : W.flags.KeptOutside s.f t.f

/-- The footprint of POP: the pair, whose low half is the flags for AF, and SP. -/
def popFootprint (rr : Reg16S) : Footprint :=
  { regs := rr.halves, sp := true, flags := if rr = .af then .all else .none }

/-- The footprint of an ALU operation: all flags, and A unless it is CP. -/
def aluFootprint (op : AluOp) : Footprint := { regs := if op = .cp then [] else [.a], flags := .all }

/-- The footprint of RLCA, RRCA, RLA and RRA: A, and Z by `A_ROT_Z` (R180 to R183). -/
def aRotFootprint (cfg : Config) : Footprint :=
  { regs := [.a], flags := { z := decide (cfg.aRotZ = .cleared), n := true, h := true, c := true } }

/-- The footprint of a CB byte's handler, by its field `x` and its target (30_encoding.md R76). -/
def cbFootprint (x : BitVec 2) (target : Option Reg8) : Footprint where
  regs := match target with
    | some r => if x = 1 then [] else [r]
    | none => []
  flags := match x.toNat with
    | 0 => .all
    | 1 => .butC
    | _ => .none

theorem State.getR8_setR16_other (s : State) (rr : Reg16) (v : Word) {r : Reg8} (hr : r ∉ rr.halves) :
    (s.setR16 rr v).getR8 r = s.getR8 r := by
  revert hr
  cases rr <;> cases r <;> simp [Reg16.halves, State.setR16, State.getR8]

theorem State.getR8_setR16S_other (s : State) (rr : Reg16S) (v : Word) {r : Reg8} (hr : r ∉ rr.halves) :
    (s.setR16S rr v).getR8 r = s.getR8 r := by
  revert hr
  cases rr <;> cases r <;> simp [Reg16S.halves, State.setR16S, State.getR8]

theorem State.setR16_sp_of_ne (s : State) {rr : Reg16} (hr : rr ≠ .sp) (v : Word) : (s.setR16 rr v).sp = s.sp := by
  cases rr with
  | sp => exact absurd rfl hr
  | bc | de | hl => rfl

theorem State.setR16S_f_of_ne (s : State) {rr : Reg16S} (hr : rr ≠ .af) (v : Word) : (s.setR16S rr v).f = s.f := by
  cases rr with
  | af => exact absurd rfl hr
  | bc | de | hl => rfl

theorem Flags.KeptOutside.refl (written f : Flags) : written.KeptOutside f f :=
  ⟨fun _ => rfl, fun _ => rfl, fun _ => rfl, fun _ => rfl⟩

theorem Flags.KeptOutside.trans {written f g k : Flags} (h1 : written.KeptOutside f g) (h2 : written.KeptOutside g k) :
    written.KeptOutside f k :=
  ⟨fun h => (h2.z h).trans (h1.z h), fun h => (h2.n h).trans (h1.n h), fun h => (h2.h h).trans (h1.h h),
    fun h => (h2.c h).trans (h1.c h)⟩

theorem Flags.KeptOutside.all (f g : Flags) : Flags.all.KeptOutside f g := ⟨nofun, nofun, nofun, nofun⟩

theorem Flags.KeptOutside.butC {f g : Flags} (h : g.c = f.c) : Flags.butC.KeptOutside f g :=
  ⟨nofun, nofun, nofun, fun _ => h⟩

theorem Flags.KeptOutside.butZ {f g : Flags} (h : g.z = f.z) : Flags.butZ.KeptOutside f g :=
  ⟨fun _ => h, nofun, nofun, nofun⟩

namespace Footprint

variable {W : Footprint}

/-! What each kind of state update keeps. -/

theorem Keeps.refl (s : State) : W.Keeps s s := ⟨fun _ _ => rfl, fun _ => rfl, fun _ => rfl, .refl _ _⟩

theorem Keeps.trans {s t u : State} (h1 : W.Keeps s t) (h2 : W.Keeps t u) : W.Keeps s u :=
  ⟨fun r hr => (h2.regs r hr).trans (h1.regs r hr), fun h => (h2.sp h).trans (h1.sp h),
    fun h => (h2.pc h).trans (h1.pc h), h1.flags.trans h2.flags⟩

theorem composes (W : Footprint) : Composes W.Keeps := ⟨Keeps.refl, Keeps.trans⟩

/-- An update outside the register file. -/
theorem Keeps.core (s : State) (ime eiDelay : Bool) (run : RunState) (mem : Memory) (replies : List BusReply)
    (cycles : Option Nat) (busCalls : List BusCall) : W.Keeps s { s with
      ime := ime, eiDelay := eiDelay, run := run, mem := mem, replies := replies, cycles := cycles, busCalls := busCalls } :=
  ⟨fun r _ => by cases r <;> rfl, fun _ => rfl, fun _ => rfl, .refl _ _⟩

theorem Keeps.setR8 (s : State) {r : Reg8} (hr : r ∈ W.regs) (v : Byte) : W.Keeps s (s.setR8 r v) where
  regs q hq := s.getR8_setR8_other r q v fun h => hq (h ▸ hr)
  sp _ := s.setR8_sp r v
  pc _ := s.setR8_pc r v
  flags := s.setR8_f r v ▸ .refl _ _

theorem Keeps.setR16 (s : State) {rr : Reg16} (hr : ∀ r ∈ rr.halves, r ∈ W.regs) (hsp : rr = .sp → W.sp = true)
    (v : Word) : W.Keeps s (s.setR16 rr v) where
  regs q hq := s.getR8_setR16_other rr v fun h => hq (hr q h)
  sp h := s.setR16_sp_of_ne (fun e => Bool.eq_false_iff.1 h (hsp e)) v
  pc _ := s.setR16_pc rr v
  flags := s.setR16_f rr v ▸ .refl _ _

theorem Keeps.setR16S (s : State) {rr : Reg16S} (hr : ∀ r ∈ rr.halves, r ∈ W.regs) (hf : rr = .af → W.flags = .all)
    (v : Word) : W.Keeps s (s.setR16S rr v) where
  regs q hq := s.getR8_setR16S_other rr v fun h => hq (hr q h)
  sp _ := s.setR16S_sp rr v
  pc _ := s.setR16S_pc rr v
  flags := by
    by_cases haf : rr = .af
    · rw [hf haf]; exact .all _ _
    · rw [s.setR16S_f_of_ne haf v]; exact .refl _ _

theorem Keeps.setSp (s : State) (h : W.sp = true) (v : Word) : W.Keeps s { s with sp := v } :=
  ⟨fun r _ => by cases r <;> rfl, fun h' => absurd h (Bool.eq_false_iff.1 h'), fun _ => rfl,
    .refl _ _⟩

theorem Keeps.setPc (s : State) (h : W.pc = true) (v : Word) : W.Keeps s { s with pc := v } :=
  ⟨fun r _ => by cases r <;> rfl, fun _ => rfl, fun h' => absurd h (Bool.eq_false_iff.1 h'), .refl _ _⟩

theorem Keeps.setFlags (s : State) {f : Flags} (h : W.flags.KeptOutside s.f f) : W.Keeps s { s with f := f } :=
  ⟨fun r _ => by cases r <;> rfl, fun _ => rfl, fun _ => rfl, h⟩

theorem Keeps.setAFlags (s : State) (ha : .a ∈ W.regs) (v : Byte) {f : Flags} (h : W.flags.KeptOutside s.f f) :
    W.Keeps s { s with a := v, f := f } :=
  Keeps.trans (Keeps.setR8 s (r := .a) ha v) (Keeps.setFlags (s.setR8 .a v) h)

end Footprint

/-- An operation that ends with a value, in a state known outright. -/
theorem from_ok {α : Type} {R : State → State → Prop} {E : Fault → Prop} {s t : State} {op : Op α} {v : α}
    (h : op s = .ok v t) (hR : R s t) : OpFrom R E s op :=
  ⟨fun _ _ e => by cases h.symm.trans e; exact hR, fun _ _ e => by cases h.symm.trans e⟩

/-- An operation that writes nothing of the register file outside the footprint, with or without a fault. -/
abbrev WritesWithin (W : Footprint) {α : Type} (op : Op α) : Prop := OpKeeps (fun _ => True) W.Keeps (fun _ => True) op

namespace WritesWithin

variable {α β : Type} {W : Footprint}

/-! The primitives of the pseudocode (00_scope.md R7). -/

theorem pure (v : α) : WritesWithin W (Pure.pure v : Op α) := fun s _ => from_pure (.refl s) v

theorem bind {x : Op α} {f : α → Op β} (hx : WritesWithin W x) (hf : ∀ v, WritesWithin W (f v)) :
    WritesWithin W (x >>= f) :=
  fun s hs => from_bind W.composes (hx s hs) fun v t _ _ => hf v t trivial

theorem returning {x : Op Unit} (hx : WritesWithin W x) (n : Nat) : WritesWithin W (x >>= fun _ => Pure.pure n) :=
  bind hx fun _ => pure n

theorem raise (f : Fault) : WritesWithin W (Machine.raise f : Op α) := fun s _ => from_raise (.refl s) trivial

theorem memRead (addr : Word) : WritesWithin W (memRead addr) :=
  fun s _ => from_memRead addr (.core s ..) (.core s ..) fun _ => trivial

theorem memWrite (addr : Word) (v : Byte) : WritesWithin W (memWrite addr v) :=
  fun s _ => from_memWrite addr v (.core s ..) (.core s ..) fun _ => trivial

theorem halfCarry (op : KernelOp) (left : Nat) (rights : List Nat) : WritesWithin W (halfCarry op 8 left rights) :=
  fun s _ => from_halfCarry (.refl s) op rfl left rights

theorem updateR8 {r : Reg8} (hr : r ∈ W.regs) (v : State → Byte) :
    WritesWithin W (updateState fun s => s.setR8 r (v s)) := .update fun s => .setR8 s hr _

theorem updateR16 {rr : Reg16} (hr : ∀ r ∈ rr.halves, r ∈ W.regs) (hsp : rr = .sp → W.sp = true) (v : State → Word) :
    WritesWithin W (updateState fun s => s.setR16 rr (v s)) := .update fun s => .setR16 s hr hsp _

/-- A write of HL, whose halves are no part of SP. -/
theorem updateHl (h : ∀ r ∈ [Reg8.h, Reg8.l], r ∈ W.regs) (v : State → Word) :
    WritesWithin W (updateState fun s => s.setHl (v s)) := updateR16 (rr := .hl) h nofun v

theorem updateSp (h : W.sp = true) (v : State → Word) : WritesWithin W (updateState fun s => { s with sp := v s }) :=
  .update fun s => .setSp s h _

theorem updatePc (h : W.pc = true) (v : State → Word) : WritesWithin W (updateState fun s => { s with pc := v s }) :=
  .update fun s => .setPc s h _

theorem updateFlags (f : State → Flags) (h : ∀ s, W.flags.KeptOutside s.f (f s)) :
    WritesWithin W (updateState fun s => { s with f := f s }) := .update fun s => .setFlags s (h s)

theorem updateButC (h : W.flags = .butC) (f : State → Flags) (hc : ∀ s, (f s).c = s.f.c) :
    WritesWithin W (updateState fun s => { s with f := f s }) := updateFlags f fun s => h ▸ .butC (hc s)

theorem updateButZ (h : W.flags = .butZ) (f : State → Flags) (hz : ∀ s, (f s).z = s.f.z) :
    WritesWithin W (updateState fun s => { s with f := f s }) := updateFlags f fun s => h ▸ .butZ (hz s)

theorem setAllFlags (h : W.flags = .all) (f : Flags) : WritesWithin W (setFlags f) :=
  updateFlags (fun _ => f) fun _ => h ▸ .all _ _

theorem fetch8 (h : W.pc = true) : WritesWithin W fetch8 :=
  .read fun _ => bind (memRead _) fun v => bind (updatePc h (·.pc + 1)) fun _ => pure v

theorem pushByte (h : W.sp = true) (v : Byte) : WritesWithin W (pushByte v) :=
  bind (updateSp h (·.sp - 1)) fun _ => .read fun _ => memWrite _ v

theorem push16 (h : W.sp = true) (v : Word) : WritesWithin W (push16 v) := bind (pushByte h _) fun _ => pushByte h _

theorem popByte (h : W.sp = true) : WritesWithin W popByte :=
  .read fun _ => bind (memRead _) fun v => bind (updateSp h (·.sp + 1)) fun _ => pure v

theorem pop16 (h : W.sp = true) : WritesWithin W pop16 := bind (popByte h) fun _ => bind (popByte h) fun _ => pure _

/-! Loads and the stack (40_loads.md, 47_stack.md): no flag. -/

theorem ldRR (dst src : Reg8) : WritesWithin { regs := [dst] } (ldRR dst src) :=
  returning (updateR8 List.mem_cons_self (·.getR8 src)) 1

theorem ldRMemHl (dst : Reg8) : WritesWithin { regs := [dst] } (ldRMemHl dst) :=
  .read fun _ => bind (memRead _) fun v => returning (updateR8 List.mem_cons_self fun _ => v) 2

theorem ldRD8 (dst : Reg8) (n : Byte) : WritesWithin { regs := [dst] } (ldRD8 dst n) :=
  returning (updateR8 List.mem_cons_self fun _ => n) 2

/-- A byte stored, and the count. -/
theorem storing (addr : State → Word) (v : State → Byte) (n : Nat) :
    WritesWithin W (getState >>= fun s => Machine.memWrite (addr s) (v s) >>= fun _ => Pure.pure n) :=
  .read fun _ => returning (memWrite _ _) n

/-- A byte read into A, and the count. -/
theorem loadingA (addr : Word) (n : Nat) :
    WritesWithin { regs := [.a] } (Machine.memRead addr >>= fun v =>
      updateState (fun s => { s with a := v }) >>= fun _ => Pure.pure n) :=
  bind (memRead _) fun v => returning (updateR8 (r := .a) List.mem_cons_self fun _ => v) n

theorem ldAMemRr (rr : Reg16) : WritesWithin { regs := [.a] } (ldAMemRr rr) := .read fun _ => loadingA _ 2

theorem ldAMemA16 (addr : Word) : WritesWithin { regs := [.a] } (ldAMemA16 addr) := loadingA addr 4

theorem ldhAMemA8 (n : Byte) : WritesWithin { regs := [.a] } (ldhAMemA8 n) := loadingA _ 3

theorem ldAMemC : WritesWithin { regs := [.a] } ldAMemC := .read fun _ => loadingA _ 2

theorem ldAMemHlStep (delta : Word) : WritesWithin { regs := [.a, .h, .l] } (ldAMemHlStep delta) :=
  .read fun _ => bind (memRead _) fun v => bind (updateR8 (r := .a) List.mem_cons_self fun _ => v) fun _ =>
    returning (updateHl (fun _ => List.mem_cons_of_mem _) (·.hl + delta)) 2

theorem ldMemHlStepA (delta : Word) : WritesWithin { regs := [.h, .l] } (ldMemHlStepA delta) :=
  .read fun _ => bind (memWrite _ _) fun _ => returning (updateHl (fun _ h => h) (·.hl + delta)) 2

theorem ldRrD16 (rr : Reg16) (nn : Word) :
    WritesWithin { regs := rr.halves, sp := decide (rr = .sp) } (ldRrD16 rr nn) :=
  returning (updateR16 (fun _ h => h) decide_eq_true fun _ => nn) 3

theorem ldMemA16Sp (addr : Word) : WritesWithin W (ldMemA16Sp addr) :=
  .read fun _ => returning (bind (memWrite _ _) fun _ => memWrite _ _) 5

theorem ldSpHl : WritesWithin { sp := true } ldSpHl := returning (updateSp rfl (·.hl)) 2

theorem pushRr (rr : Reg16S) : WritesWithin { sp := true } (pushRr rr) := .read fun _ => returning (push16 rfl _) 4

theorem popRr (rr : Reg16S) : WritesWithin (popFootprint rr) (popRr rr) :=
  bind (pop16 rfl) fun v => returning (.update fun s => .setR16S s (fun _ h => h) (fun h => if_pos h) v) 3

/-! Increment and decrement (41_incdec.md). -/

theorem incDecFlags (h : W.flags = .butC) (op : KernelOp) (v w : Byte) : WritesWithin W (incDecFlags op v w) :=
  bind (halfCarry op _ _) fun _ => updateButC h _ fun _ => rfl

theorem incDecR (op : KernelOp) (r : Reg8) : WritesWithin { regs := [r], flags := .butC } (incDecR op r) :=
  .read fun _ => bind (updateR8 List.mem_cons_self fun _ => _) fun _ => returning (incDecFlags rfl op _ _) 1

theorem incDecMemHl (op : KernelOp) : WritesWithin { flags := .butC } (incDecMemHl op) :=
  .read fun _ => bind (memRead _) fun _ => bind (memWrite _ _) fun _ => returning (incDecFlags rfl op _ _) 3

theorem incDecRr (op : KernelOp) (rr : Reg16) :
    WritesWithin { regs := rr.halves, sp := decide (rr = .sp) } (incDecRr op rr) :=
  returning (updateR16 (fun _ h => h) decide_eq_true fun s => apply16 op (s.getR16 rr) [1]) 2

/-! Arithmetic and logic (42_alu8.md, 43_alu16.md). -/

theorem aluArith (h : W.flags = .all) (op : KernelOp) (a : Byte) (rights : List Nat) :
    WritesWithin W (aluArith op a rights) :=
  bind (halfCarry op _ _) fun _ => bind (setAllFlags h _) fun _ => pure _

theorem aluLogic (h : W.flags = .all) (op : KernelOp) (half : Bool) (a b : Byte) :
    WritesWithin W (aluLogic op half a b) := bind (setAllFlags h _) fun _ => pure _

theorem aluResult (h : W.flags = .all) (op : AluOp) (a b : Byte) : WritesWithin W (aluResult op a b) :=
  .read fun _ => match op with
    | .add | .adc | .sub | .sbc | .cp => aluArith h _ _ _
    | .and | .xor | .or => aluLogic h _ _ _ _

theorem aluAccumulate (op : AluOp) (b : Byte) : WritesWithin (aluFootprint op) (aluAccumulate op b) :=
  .read fun _ => bind (aluResult rfl op _ _) fun v => .update fun s => match op with
    | .cp => .refl s
    | .add | .adc | .sub | .sbc | .and | .xor | .or => .setR8 s (r := .a) List.mem_cons_self v

theorem aluR (op : AluOp) (r : Reg8) : WritesWithin (aluFootprint op) (aluR op r) :=
  .read fun _ => returning (aluAccumulate op _) 1

theorem aluMemHl (op : AluOp) : WritesWithin (aluFootprint op) (aluMemHl op) :=
  .read fun _ => bind (memRead _) fun _ => returning (aluAccumulate op _) 2

theorem aluD8 (op : AluOp) (n : Byte) : WritesWithin (aluFootprint op) (aluD8 op n) := returning (aluAccumulate op n) 2

/-- Z is the one read before HL is written, so the two updates are taken together. -/
theorem addHlRr (rr : Reg16) : WritesWithin { regs := [.h, .l], flags := .butZ } (addHlRr rr) :=
  fun s _ => from_ok (t := { s.setHl _ with f := _ }) rfl
    ((Footprint.Keeps.setR16 s (rr := .hl) (fun _ h => h) nofun _).trans (.setFlags _ (.butZ rfl)))

theorem addSpE8 (e : Byte) : WritesWithin { sp := true, flags := .all } (addSpE8 e) :=
  .read fun _ => bind (updateSp rfl (spPlus ·.sp e)) fun _ => returning (setAllFlags rfl _) 4

theorem ldHlSpE8 (e : Byte) : WritesWithin { regs := [.h, .l], flags := .all } (ldHlSpE8 e) :=
  .read fun _ => bind (updateHl (fun _ h => h) (spPlus ·.sp e)) fun _ => returning (setAllFlags rfl _) 3

/-! Rotates, shifts and bits (44_rotate_shift.md, 45_bit.md), and PREFIX CB (48_misc.md R259). -/

theorem aRotFlags_keptOutside (cfg : Config) (old : Flags) (c : Bool) :
    (aRotFootprint cfg).flags.KeptOutside old (aRotFlags cfg.aRotZ old c) := by
  refine ⟨fun hz => ?_, nofun, nofun, nofun⟩
  have mode_unchanged : cfg.aRotZ = .unchanged := by
    cases h : cfg.aRotZ with
    | unchanged => rfl
    | cleared => exact absurd h (of_decide_eq_false hz)
  rw [mode_unchanged]; rfl

/-- An accumulator rotate writes by the parameter of the state it starts in. -/
theorem rotA (op : RotOp) (s : State) : OpFrom (aRotFootprint s.cfg).Keeps (fun _ => True) s (rotA op) :=
  from_ok (t := { s with a := _, f := _ }) rfl
    (.setAFlags s List.mem_cons_self _ (aRotFlags_keptOutside s.cfg s.f _))

theorem rotR (op : RotOp) (r : Reg8) : WritesWithin { regs := [r], flags := .all } (rotR op r) :=
  .read fun _ => bind (updateR8 List.mem_cons_self fun _ => _) fun _ => returning (setAllFlags rfl _) 1

theorem rotMemHl (op : RotOp) : WritesWithin { flags := .all } (rotMemHl op) :=
  .read fun _ => bind (memRead _) fun _ => bind (memWrite _ _) fun _ => returning (setAllFlags rfl _) 3

theorem bitR (i : Fin 8) (r : Reg8) : WritesWithin { flags := .butC } (bitR i r) :=
  returning (updateButC rfl (fun s => bitTestFlags s.f (s.getR8 r) i) fun _ => rfl) 1

theorem bitMemHl (i : Fin 8) : WritesWithin { flags := .butC } (bitMemHl i) :=
  .read fun _ => bind (memRead _) fun v => returning (updateButC rfl (bitTestFlags ·.f v i) fun _ => rfl) 2

theorem putBitR (i : Fin 8) (b : Bool) (r : Reg8) : WritesWithin { regs := [r] } (putBitR i b r) :=
  returning (updateR8 List.mem_cons_self fun s => setBit (s.getR8 r) i b) 1

theorem putBitMemHl (i : Fin 8) (b : Bool) : WritesWithin W (putBitMemHl i b) :=
  .read fun _ => bind (memRead _) fun _ => returning (memWrite _ _) 3

theorem prefixed {op : Op Nat} (h : WritesWithin W op) : WritesWithin W (prefixed op) := bind h fun _ => pure _

theorem bitVec2_cases : ∀ x : BitVec 2, x = 0 ∨ x = 1 ∨ x = 2 ∨ x = 3 := by decide

theorem cbHandlerR (x : BitVec 2) (y : Fin 8) (r : Reg8) :
    WritesWithin (cbFootprint x (some r)) (cbHandlerR x.toNat y r) := by
  rcases bitVec2_cases x with rfl | rfl | rfl | rfl
  · exact rotR _ r
  · exact bitR y r
  · exact putBitR y false r
  · exact putBitR y true r

theorem cbHandlerMemHl (x : BitVec 2) (y : Fin 8) : WritesWithin (cbFootprint x none) (cbHandlerMemHl x.toNat y) := by
  rcases bitVec2_cases x with rfl | rfl | rfl | rfl
  · exact rotMemHl _
  · exact bitMemHl y
  · exact putBitMemHl y false
  · exact putBitMemHl y true

theorem cbHandler (cb : Byte) :
    WritesWithin (cbFootprint (cb.extractLsb' 6 2) (cbTarget (cb.extractLsb' 0 3).toFin)) (cbHandler cb) := by
  unfold Machine.cbHandler
  split
  · next r htarget => rw [htarget]; exact cbHandlerR _ _ r
  · next htarget => rw [htarget]; exact cbHandlerMemHl _ _

/-! Control transfer (46_control.md) and the instructions of 48_misc.md: no flag but those of DAA, CPL, SCF and CCF. -/

theorem jumpTo (h : W.pc = true) (target : Word) : WritesWithin W (jumpTo target) := updatePc h fun _ => target

theorem jumpRelative (h : W.pc = true) (e : Byte) : WritesWithin W (jumpRelative e) := updatePc h (·.pc + sext16 e)

theorem callTo (target : Word) : WritesWithin { sp := true, pc := true } (callTo target) :=
  .read fun _ => bind (push16 rfl _) fun _ => jumpTo rfl target

theorem returnTo : WritesWithin { sp := true, pc := true } returnTo := bind (pop16 rfl) fun _ => jumpTo rfl _

theorem jpHl : WritesWithin { pc := true } jpHl := .read fun _ => returning (jumpTo rfl _) 1

theorem conditional (cc : Cond) {transfer : Op Unit} (h : WritesWithin W transfer) (taken notTaken : Nat) :
    WritesWithin W (conditional cc transfer taken notTaken) :=
  .read fun _ => by
    split
    · exact returning h taken
    · exact pure notTaken

theorem reti : WritesWithin { sp := true, pc := true } reti :=
  returning (bind (pop16 rfl) fun target => .update fun s => (Footprint.Keeps.setPc s rfl target).trans (.core _ ..)) 4

theorem daaResult_n (a : Byte) (f : Flags) : (daaResult a f).2.n = f.n := by
  unfold daaResult
  split <;> rfl

theorem daa : WritesWithin { regs := [.a], flags := { z := true, n := false, h := true, c := true } } daa := by
  refine returning (.update fun s => ?_) 1
  exact .setAFlags s List.mem_cons_self _ ⟨nofun, fun _ => daaResult_n s.a s.f, nofun, nofun⟩

theorem cpl : WritesWithin { regs := [.a], flags := { z := false, n := true, h := true, c := false } } cpl := by
  refine returning (.update fun s => ?_) 1
  exact .setAFlags s List.mem_cons_self _ ⟨fun _ => rfl, nofun, nofun, fun _ => rfl⟩

theorem scf : WritesWithin { flags := .butZ } scf :=
  returning (updateButZ rfl (fun s => { s.f with n := false, h := false, c := true }) fun _ => rfl) 1

theorem ccf : WritesWithin { flags := .butZ } ccf :=
  returning (updateButZ rfl (fun s => { s.f with n := false, h := false, c := !s.f.c }) fun _ => rfl) 1

theorem halt : WritesWithin W halt := returning (.update fun s => .core s ..) 1

theorem di : WritesWithin W di := returning (.update fun s => .core s ..) 1

theorem ei : WritesWithin W ei := returning (.update fun s => .core s ..) 1

theorem stop : WritesWithin { pc := true } stop :=
  .read fun _ => by
    split
    · exact raise _
    · exact bind (fetch8 rfl) fun _ => pure 1

theorem illegalOpcode (op : Byte) : WritesWithin W (illegalOpcode op) := .read fun _ => raise _

end WritesWithin

end Sys2Proof.Machine
end

section
/-! PROOFS. The frames of the whole instruction set: the footprint of each family of the opcode map (10_state.md R26 to R28)
is that of the operation its instructions run. -/

namespace Sys2Proof.Machine

/-! What Footprint.lean says of each family, in terms of the operand fields. -/

section
variable (cfg : Config)

theorem footprint_ldRR (x y : Reg8) : footprint (Instr.ldRR x y) cfg = { regs := [x] } := by
  cases x <;> cases y <;> rfl

theorem footprint_ldRMemHl (x : Reg8) : footprint (Instr.ldRMemHl x) cfg = { regs := [x] } := by cases x <;> rfl

theorem footprint_ldMemHlR (x : Reg8) : footprint (Instr.ldMemHlR x) cfg = {} := by cases x <;> rfl

theorem footprint_ldRD8 (x : Reg8) (n : Byte) : footprint (Instr.ldRD8 x n) cfg = { regs := [x] } := by cases x <;> rfl

theorem footprint_ldRrD16 (x : Reg16) (nn : Word) :
    footprint (Instr.ldRrD16 x nn) cfg = { regs := x.halves, sp := decide (x = .sp) } := by cases x <;> rfl

theorem footprint_ldAMemHlStep (up : Bool) : footprint (Instr.ldAMemHlStep up) cfg = { regs := [.a, .h, .l] } := by
  cases up <;> rfl

theorem footprint_ldMemHlStepA (up : Bool) : footprint (Instr.ldMemHlStepA up) cfg = { regs := [.h, .l] } := by
  cases up <;> rfl

theorem footprint_pushRr (x : Reg16S) : footprint (Instr.pushRr x) cfg = { sp := true } := by cases x <;> rfl

theorem footprint_popRr (x : Reg16S) : footprint (Instr.popRr x) cfg = popFootprint x := by cases x <;> rfl

theorem footprint_incR (x : Reg8) : footprint (Instr.incR x) cfg = { regs := [x], flags := .butC } := by cases x <;> rfl

theorem footprint_decR (x : Reg8) : footprint (Instr.decR x) cfg = { regs := [x], flags := .butC } := by cases x <;> rfl

theorem footprint_incRr (x : Reg16) :
    footprint (Instr.incRr x) cfg = { regs := x.halves, sp := decide (x = .sp) } := by cases x <;> rfl

theorem footprint_decRr (x : Reg16) :
    footprint (Instr.decRr x) cfg = { regs := x.halves, sp := decide (x = .sp) } := by cases x <;> rfl

theorem footprint_aluR (op : AluOp) (x : Reg8) : footprint (Instr.aluR op x) cfg = aluFootprint op := by
  cases op <;> cases x <;> rfl

theorem footprint_aluMemHl (op : AluOp) : footprint (Instr.aluMemHl op) cfg = aluFootprint op := by cases op <;> rfl

theorem footprint_aluD8 (op : AluOp) (n : Byte) : footprint (Instr.aluD8 op n) cfg = aluFootprint op := by
  cases op <;> rfl

theorem footprint_addHlRr (x : Reg16) : footprint (Instr.addHlRr x) cfg = { regs := [.h, .l], flags := .butZ } := by
  cases x <;> rfl

theorem footprint_rotR (op : RotOp) (x : Reg8) :
    footprint (Instr.rotR op x) cfg = { regs := [x], flags := .all } := by cases op <;> cases x <;> rfl

theorem footprint_rotMemHl (op : RotOp) : footprint (Instr.rotMemHl op) cfg = { flags := .all } := by cases op <;> rfl

theorem footprint_bitR (i : Fin 8) (x : Reg8) : footprint (Instr.bitR i x) cfg = { flags := .butC } := by
  cases x <;> fin_cases i <;> rfl

theorem footprint_bitMemHl (i : Fin 8) : footprint (Instr.bitMemHl i) cfg = { flags := .butC } := by fin_cases i <;> rfl

theorem footprint_resR (i : Fin 8) (x : Reg8) : footprint (Instr.resR i x) cfg = { regs := [x] } := by
  cases x <;> fin_cases i <;> rfl

theorem footprint_resMemHl (i : Fin 8) : footprint (Instr.resMemHl i) cfg = {} := by fin_cases i <;> rfl

theorem footprint_setR (i : Fin 8) (x : Reg8) : footprint (Instr.setR i x) cfg = { regs := [x] } := by
  cases x <;> fin_cases i <;> rfl

theorem footprint_setMemHl (i : Fin 8) : footprint (Instr.setMemHl i) cfg = {} := by fin_cases i <;> rfl

theorem footprint_jpCcA16 (cc : Cond) (addr : Word) : footprint (Instr.jpCcA16 cc addr) cfg = { pc := true } := by
  cases cc <;> rfl

theorem footprint_jrCcE8 (cc : Cond) (e : Byte) : footprint (Instr.jrCcE8 cc e) cfg = { pc := true } := by
  cases cc <;> rfl

theorem footprint_callCcA16 (cc : Cond) (addr : Word) :
    footprint (Instr.callCcA16 cc addr) cfg = { sp := true, pc := true } := by cases cc <;> rfl

theorem footprint_retCc (cc : Cond) : footprint (Instr.retCc cc) cfg = { sp := true, pc := true } := by cases cc <;> rfl

theorem footprint_rst (y : Fin 8) : footprint (Instr.rst y) cfg = { sp := true, pc := true } := by fin_cases y <;> rfl

theorem footprint_illegal (k : Fin 11) : footprint (Instr.illegal k) cfg = {} := by fin_cases k <;> rfl

end

/-- The instruction writes nothing of the register file outside its footprint. -/
def HasFootprint (i : Instr) : Prop := ∀ s s', exec i s = .next s' → (footprint i s.cfg).Keeps s s'

namespace HasFootprint

theorem of_from {i : Instr} {op : Op Nat} (hop : ∀ s, OpFrom (footprint i s.cfg).Keeps (fun _ => True) s op)
    (hexec : ∀ s, exec i s = handler op s) : HasFootprint i := fun s _ h =>
  handler_keeps (Footprint.composes _) (hop s) (fun t _ => .core t ..) (fun t _ _ => .core t ..) ((hexec s).symm.trans h)

theorem of_writes {i : Instr} {op : Op Nat} {W : Footprint} (hop : WritesWithin W op)
    (hexec : ∀ s, exec i s = handler op s) (hW : ∀ cfg, footprint i cfg = W) : HasFootprint i :=
  of_from (fun s => hW s.cfg ▸ hop s trivial) hexec

end HasFootprint

namespace WritesWithin

theorem hasFootprint : ∀ i : Instr, HasFootprint i := by
  apply Instr.byFamily
  case ldRR => exact fun x y => .of_writes (ldRR x y) (exec_ldRR x y) (footprint_ldRR · x y)
  case ldRMemHl => exact fun x => .of_writes (ldRMemHl x) (exec_ldRMemHl x) (footprint_ldRMemHl · x)
  case ldMemHlR => exact fun x => .of_writes (storing (·.hl) (·.getR8 x) 2) (exec_ldMemHlR x) (footprint_ldMemHlR · x)
  case ldRD8 => exact fun x n => .of_writes (ldRD8 x n) (exec_ldRD8 x n) (footprint_ldRD8 · x n)
  case ldRrD16 => exact fun x nn => .of_writes (ldRrD16 x nn) (exec_ldRrD16 x nn) (footprint_ldRrD16 · x nn)
  case ldAMemHlStep => exact fun up => .of_writes (ldAMemHlStep _) (exec_ldAMemHlStep up) (footprint_ldAMemHlStep · up)
  case ldMemHlStepA => exact fun up => .of_writes (ldMemHlStepA _) (exec_ldMemHlStepA up) (footprint_ldMemHlStepA · up)
  case pushRr => exact fun x => .of_writes (pushRr x) (exec_pushRr x) (footprint_pushRr · x)
  case popRr => exact fun x => .of_writes (popRr x) (exec_popRr x) (footprint_popRr · x)
  case incR => exact fun x => .of_writes (incDecR .add x) (exec_incR x) (footprint_incR · x)
  case decR => exact fun x => .of_writes (incDecR .sub x) (exec_decR x) (footprint_decR · x)
  case incRr => exact fun x => .of_writes (incDecRr .add x) (exec_incRr x) (footprint_incRr · x)
  case decRr => exact fun x => .of_writes (incDecRr .sub x) (exec_decRr x) (footprint_decRr · x)
  case aluR => exact fun op x => .of_writes (aluR op x) (exec_aluR op x) (footprint_aluR · op x)
  case aluMemHl => exact fun op => .of_writes (aluMemHl op) (exec_aluMemHl op) (footprint_aluMemHl · op)
  case aluD8 => exact fun op n => .of_writes (aluD8 op n) (exec_aluD8 op n) (footprint_aluD8 · op n)
  case addHlRr => exact fun x => .of_writes (addHlRr x) (exec_addHlRr x) (footprint_addHlRr · x)
  case rotR => exact fun op x => .of_writes (prefixed (rotR op x)) (exec_rotR op x) (footprint_rotR · op x)
  case rotMemHl => exact fun op => .of_writes (prefixed (rotMemHl op)) (exec_rotMemHl op) (footprint_rotMemHl · op)
  case bitR => exact fun i x => .of_writes (prefixed (bitR i x)) (exec_bitR i x) (footprint_bitR · i x)
  case bitMemHl => exact fun i => .of_writes (prefixed (bitMemHl i)) (exec_bitMemHl i) (footprint_bitMemHl · i)
  case resR => exact fun i x => .of_writes (prefixed (putBitR i false x)) (exec_resR i x) (footprint_resR · i x)
  case resMemHl => exact fun i => .of_writes (prefixed (putBitMemHl i false)) (exec_resMemHl i) (footprint_resMemHl · i)
  case setR => exact fun i x => .of_writes (prefixed (putBitR i true x)) (exec_setR i x) (footprint_setR · i x)
  case setMemHl => exact fun i => .of_writes (prefixed (putBitMemHl i true)) (exec_setMemHl i) (footprint_setMemHl · i)
  case jpCcA16 =>
    exact fun cc addr => .of_writes (conditional (W := { pc := true }) cc (jumpTo rfl addr) 4 3)
      (exec_jpCcA16 cc addr) (footprint_jpCcA16 · cc addr)
  case jrCcE8 =>
    exact fun cc e => .of_writes (conditional (W := { pc := true }) cc (jumpRelative rfl e) 3 2)
      (exec_jrCcE8 cc e) (footprint_jrCcE8 · cc e)
  case callCcA16 =>
    exact fun cc addr => .of_writes (conditional cc (callTo addr) 6 3)
      (exec_callCcA16 cc addr) (footprint_callCcA16 · cc addr)
  case retCc => exact fun cc => .of_writes (conditional cc returnTo 5 2) (exec_retCc cc) (footprint_retCc · cc)
  case rst => exact fun y => .of_writes (returning (callTo _) 4) (exec_rst y) (footprint_rst · y)
  case illegal => exact fun k => .of_writes (illegalOpcode _) (exec_illegal k) (footprint_illegal · k)
  case prefixCb => exact fun cb => .of_writes (prefixed (cbHandler cb)) (fun _ => rfl) fun _ => rfl
  case rlca => exact .of_from (rotA .rlc) fun _ => rfl
  case rrca => exact .of_from (rotA .rrc) fun _ => rfl
  case rla => exact .of_from (rotA .rl) fun _ => rfl
  case rra => exact .of_from (rotA .rr) fun _ => rfl
  case nop => exact .of_writes (W := {}) (pure 1) (fun _ => rfl) fun _ => rfl
  case halt => exact .of_writes (W := {}) halt (fun _ => rfl) fun _ => rfl
  case di => exact .of_writes (W := {}) di (fun _ => rfl) fun _ => rfl
  case ei => exact .of_writes (W := {}) ei (fun _ => rfl) fun _ => rfl
  case ldMemBcA => exact .of_writes (W := {}) (storing (·.bc) (·.a) 2) (fun _ => rfl) fun _ => rfl
  case ldMemDeA => exact .of_writes (W := {}) (storing (·.de) (·.a) 2) (fun _ => rfl) fun _ => rfl
  case ldMemA16A => exact fun addr => .of_writes (W := {}) (storing (fun _ => addr) (·.a) 4) (fun _ => rfl) fun _ => rfl
  case ldhMemA8A =>
    exact fun n => .of_writes (W := {}) (storing (fun _ => highPage n) (·.a) 3)
      (fun _ => rfl) fun _ => rfl
  case ldMemCA => exact .of_writes (W := {}) (storing (highPage ·.c) (·.a) 2) (fun _ => rfl) fun _ => rfl
  case ldMemHlD8 => exact fun n => .of_writes (W := {}) (storing (·.hl) (fun _ => n) 3) (fun _ => rfl) fun _ => rfl
  case ldMemA16Sp => exact fun addr => .of_writes (W := {}) (ldMemA16Sp addr) (fun _ => rfl) fun _ => rfl
  case ldAMemBc => exact .of_writes (ldAMemRr .bc) (fun _ => rfl) fun _ => rfl
  case ldAMemDe => exact .of_writes (ldAMemRr .de) (fun _ => rfl) fun _ => rfl
  case ldAMemA16 => exact fun addr => .of_writes (ldAMemA16 addr) (fun _ => rfl) fun _ => rfl
  case ldhAMemA8 => exact fun n => .of_writes (ldhAMemA8 n) (fun _ => rfl) fun _ => rfl
  case ldAMemC => exact .of_writes ldAMemC (fun _ => rfl) fun _ => rfl
  case ldSpHl => exact .of_writes ldSpHl (fun _ => rfl) fun _ => rfl
  case incMemHl => exact .of_writes (incDecMemHl .add) (fun _ => rfl) fun _ => rfl
  case decMemHl => exact .of_writes (incDecMemHl .sub) (fun _ => rfl) fun _ => rfl
  case addSpE8 => exact fun e => .of_writes (addSpE8 e) (fun _ => rfl) fun _ => rfl
  case ldHlSpE8 => exact fun e => .of_writes (ldHlSpE8 e) (fun _ => rfl) fun _ => rfl
  case daa => exact .of_writes daa (fun _ => rfl) fun _ => rfl
  case cpl => exact .of_writes cpl (fun _ => rfl) fun _ => rfl
  case scf => exact .of_writes scf (fun _ => rfl) fun _ => rfl
  case ccf => exact .of_writes ccf (fun _ => rfl) fun _ => rfl
  case jpA16 => exact fun addr => .of_writes (W := { pc := true }) (returning (jumpTo rfl addr) 4) (fun _ => rfl) fun _ => rfl
  case jrE8 => exact fun e => .of_writes (W := { pc := true }) (returning (jumpRelative rfl e) 3) (fun _ => rfl) fun _ => rfl
  case jpHl => exact .of_writes jpHl (fun _ => rfl) fun _ => rfl
  case callA16 => exact fun addr => .of_writes (returning (callTo addr) 6) (fun _ => rfl) fun _ => rfl
  case ret => exact .of_writes (returning returnTo 4) (fun _ => rfl) fun _ => rfl
  case reti => exact .of_writes reti (fun _ => rfl) fun _ => rfl
  case stop => exact .of_writes stop (fun _ => rfl) fun _ => rfl

end WritesWithin

end Sys2Proof.Machine
open Sys2Proof Sys2Proof.Machine

/-- Settles O58: the footprint of every instruction bounds what it writes. -/
theorem registerFrame : Obligations.RegisterFrame := fun i s s' h =>
  have k := WritesWithin.hasFootprint i s s' h
  ⟨k.regs, k.sp, k.pc⟩

/-- Settles O59: the footprint of every instruction bounds the flags it writes. -/
theorem flagFrame : Obligations.FlagFrame := fun i s s' h =>
  have k := (WritesWithin.hasFootprint i s s' h).flags
  ⟨k.z, k.n, k.h, k.c⟩
end

section
/-! PROOFS. What the run loop does besides running an instruction (60_exceptions.md R280 to R288), each operation said once,
and the invariant of the state (20_memory.md R50, R64; 92_eei_decisions.md D7). -/

namespace Sys2Proof.Machine

/-- A relation kept by the effects of instructions and by what the run loop does besides: the writes of the control fields,
the Timer call and the beginning of an iteration. -/
structure KeptByRun (I : State → Prop) (R : State → State → Prop) (E : Fault → Prop) : Prop
    extends KeptByEffects I R E where
  control : ∀ s (ime eiDelay : Bool) (run : RunState) (cycles : Option Nat),
    R s { s with ime := ime, eiDelay := eiDelay, run := run, cycles := cycles }
  timed : ∀ s n, R s (s.timed n)
  beginIteration : ∀ s, R s s.beginIteration

namespace KeptByRun

section
variable {I : State → Prop} {R : State → State → Prop} {E : Fault → Prop} (k : KeptByRun I R E)
include k

/-- A jump that also writes IME or the run state. -/
theorem controlledJump (s : State) (pc : Word) (ime : Bool) (run : RunState) :
    R s { s with pc := pc, ime := ime, run := run } :=
  k.trans (k.registers s ..) (k.control { s with pc := pc } ..)

theorem timerInc (n : Nat) : OpKeeps I R E (timerInc n) := .update fun s => k.timed s n

theorem fetchInstr : OpKeeps I R E fetchInstr := by
  refine k.bind k.fetch8 fun _ => ?_
  split
  · exact k.pure _
  · exact k.bind k.fetch8 fun _ => k.pure _
  · exact k.bind k.fetch8 fun _ => k.bind k.fetch8 fun _ => k.pure _

theorem service (source : Source) (iflag : Byte) : OpKeeps I R E (service source iflag) :=
  k.bind (.update fun s => k.control s ..) fun _ => .read fun _ => k.bind (k.memWrite _ _) fun _ => .read fun _ =>
    k.bind (k.push16 _) fun _ => k.bind (.update fun s => k.controlledJump s ..) fun _ => k.timerInc 5

theorem serviceFirst (ie iflag : Byte) : OpKeeps I R E (serviceFirst ie iflag) := by
  unfold Machine.serviceFirst
  split
  · exact k.service _ _
  · exact k.pure _

theorem interruptCheck : OpKeeps I R E interruptCheck := .read fun _ => by
  split
  · exact .update fun s => k.control s ..
  · split
    · exact k.bind (k.memRead _) fun _ => k.bind (k.memRead _) fun _ => k.serviceFirst _ _
    · exact k.pure _

theorem haltedPoll : OpKeeps I R E haltedPoll := by
  refine k.bind (k.timerInc 1) fun _ => .read fun _ => k.bind (k.memRead _) fun _ => k.bind (k.memRead _) fun _ => ?_
  split
  · exact k.pure _
  · refine k.bind (.update fun s => k.control s ..) fun _ => ?_
    split
    · exact k.serviceFirst _ _
    · exact k.pure _

theorem afterInstruction (n : Nat) : OpKeeps I R E (afterInstruction n) :=
  k.bind (k.timerInc n) fun _ => .read fun _ => by
    split
    · exact k.interruptCheck
    · exact k.pure _

end

/-! Whole instructions and steps, where any fault may be recorded. -/

variable {R : State → State → Prop} (k : KeptByRun (fun _ => True) R (fun _ => True))
include k

theorem operation (i : Instr) :
    ∃ op, (∀ s, exec i s = handler op s) ∧ OpKeeps (fun _ => True) R (fun _ => True) op := by
  rcases exec_keeps_or_control k.toKeptByEffects i with h | rfl | rfl | rfl | rfl | rfl | ⟨n, rfl⟩
  · exact h
  · exact ⟨halt, fun _ => rfl, k.halt fun s => k.control s ..⟩
  · exact ⟨stop, fun _ => rfl, k.stop fun _ _ => trivial⟩
  · exact ⟨di, fun _ => rfl, k.di fun s => k.control s ..⟩
  · exact ⟨ei, fun _ => rfl, k.ei fun s => k.control s ..⟩
  · exact ⟨reti, fun _ => rfl, k.reti fun s _ => k.controlledJump s ..⟩
  · exact ⟨_, exec_illegal n, k.illegalOpcode _ fun _ => trivial⟩

theorem exec {i : Instr} {s s' : State} (h : exec i s = .next s') : R s s' := by
  obtain ⟨op, hexec, hop⟩ := k.operation i
  exact handler_keeps k.toComposes (hop s trivial) (fun t _ => k.control t ..) (fun t _ _ => k.control t ..)
    ((hexec s).symm.trans h)

theorem settle {α : Type} {op : Op α} {s s' : State} (hop : OpKeeps (fun _ => True) R (fun _ => True) op)
    (h : settle op s = .next s') : R s s' :=
  settle_keeps k.toComposes (hop s trivial) (fun t _ _ => k.control t ..) h

/-- One iteration of the run loop keeps what its parts keep (60_exceptions.md R281, R285). -/
theorem step {s s' : State} (h : step s = .next s') : R s s' := by
  refine k.trans (k.beginIteration s) ?_
  rcases step_cases h with ⟨-, hpoll⟩ | ⟨-, ⟨f, t, hfetch, rfl⟩ | ⟨i, t, u, hfetch, hexec, hafter⟩⟩
  · exact k.settle k.haltedPoll hpoll
  · exact k.trans ((k.fetchInstr _ trivial).2 f t hfetch).1 (k.control t ..)
  · have hu := k.trans ((k.fetchInstr _ trivial).1 i t hfetch) (k.exec hexec)
    rcases hafter with ⟨-, rfl⟩ | ⟨n, -, hafter⟩
    · exact hu
    · exact k.trans hu (k.settle (k.afterInstruction n) hafter)

end KeptByRun

/-- The bytes behind the bus are canonical after every call, whoever stores them. -/
theorem State.memAfterCall_wf {s : State} (h : s.mem.wf) (stored : List (Word × Byte)) : (s.memAfterCall stored).wf := by
  unfold State.memAfterCall
  split <;> exact Memory.storeAll_wf h _

/-- A device's write of IF keeps the invariant (60_exceptions.md R278). -/
theorem State.Inv.deviceRequests {s : State} (h : s.Inv) : s.deviceRequests.Inv := by
  rcases deviceRequests_cases s with ⟨-, e⟩ | ⟨bits, rest, -, e⟩ <;> rw [e]
  · exact h
  · exact ⟨State.storeByte_wf h.1 _ _, h.2⟩

/-- The second state meets the invariant if the first does. -/
def KeepsInv (s t : State) : Prop := s.Inv → t.Inv

/-- Only bus calls and the devices' writes touch memory, and nothing touches the parameters. -/
theorem KeepsInv.keptByRun : KeptByRun (fun _ => True) KeepsInv (fun _ => True) where
  refl _ h := h
  trans h k hs := k (h hs)
  carries _ _ := trivial
  registers _ _ _ _ _ _ _ _ _ _ _ h := h
  didRead _ _ h := ⟨State.memAfterCall_wf h.1 _, h.2⟩
  didWrite _ _ _ h := ⟨State.memAfterCall_wf h.1 _, h.2⟩
  rejected _ h := ⟨State.memAfterCall_wf h.1 _, h.2⟩
  busError _ _ _ _ := trivial
  control _ _ _ _ _ h := h
  timed s n h := State.Inv.deviceRequests (s := { s with timerCalls := s.timerCalls ++ [n] }) h
  beginIteration _ h := h

end Sys2Proof.Machine

open Sys2Proof Sys2Proof.Machine

/-- Settles O53: every effect of a step keeps the invariant, so the step does. -/
theorem stepKeepsInvariant : Obligations.StepKeepsInvariant := fun _ _ hs h => KeepsInv.keptByRun.step h hs

/-- Settles O11: the reset memory is canonical, and `reset()` keeps memory and the parameters. -/
theorem resetMeetsInvariant : Obligations.ResetMeetsInvariant :=
  ⟨⟨State.reset_mem_wf, by decide⟩, fun _ hs => ⟨hs.1, hs.2⟩⟩
end

section
/-! PROOFS. One bus call by the bus's reply, and what calls give on the memory: double bytes, the stack, and a read after a
write (20_memory.md R51 to R60). -/

namespace Sys2Proof.Machine

/-- A platform's own reply answers every call alike and changes the bytes it names (D1; log entry 17). -/
theorem State.reply_platform {s : State} {result : Option Byte} {changes : List (Word × Byte)}
    (h : s.reply = .platform result changes) (addr : Word) (stored : List (Word × Byte)) :
    s.readValue addr = result.getD 0x00#8 ∧ s.memAfterCall stored = s.mem.storeAll changes ∧
    ∀ site, s.accepts site = result.isSome := by
  unfold State.readValue State.memAfterCall State.accepts
  rw [h]
  exact ⟨rfl, rfl, fun _ => rfl⟩

/-- As the memory, a call is rejected exactly at the rejected sites (20_memory.md R59, R64). -/
theorem memRead_asMemory {s : State} (h : s.reply = .asMemory) (addr : Word) :
    memRead addr s =
      if BusSite.mk .read addr ∈ s.rejects then .error (.busError addr .read) { s with replies := s.replies.tail }
      else .ok (s.byteAt addr)
        { s with replies := s.replies.tail, busCalls := s.busCalls ++ [⟨.read, addr, s.byteAt addr⟩] } := by
  obtain ⟨hvalue, hmem, haccepts⟩ := State.reply_asMemory h addr []
  split
  · next hsite =>
    rw [memRead_rejected fun ha => (haccepts _).1 ha hsite, State.rejected, hmem]; rfl
  · next hsite => rw [memRead_ok ((haccepts _).2 hsite), State.didRead, hmem, hvalue]; rfl

theorem memWrite_asMemory {s : State} (h : s.reply = .asMemory) (addr : Word) (v : Byte) :
    memWrite addr v s =
      if BusSite.mk .write addr ∈ s.rejects then .error (.busError addr .write) { s with replies := s.replies.tail }
      else .ok () { s with
        mem := s.mem.write addr.toNat v, replies := s.replies.tail, busCalls := s.busCalls ++ [⟨.write, addr, v⟩] } := by
  have haccepts := (State.reply_asMemory h addr []).2.2
  have memAfterCall_eq (stored) : s.memAfterCall stored = s.mem.storeAll stored :=
    (State.reply_asMemory h addr stored).2.1
  split
  · next hsite =>
    rw [memWrite_rejected fun ha => (haccepts _).1 ha hsite, State.rejected, memAfterCall_eq]; rfl
  · next hsite => rw [memWrite_ok ((haccepts _).2 hsite), State.didWrite, memAfterCall_eq]; rfl

/-- A platform's byte is what a read returns, and it accepts a write; either changes the bytes the platform names (D1). -/
theorem memRead_platform {s : State} {byte : Byte} {changes : List (Word × Byte)}
    (h : s.reply = .platform (some byte) changes) (addr : Word) :
    memRead addr s = .ok byte { s with
      mem := s.mem.storeAll changes, replies := s.replies.tail, busCalls := s.busCalls ++ [⟨.read, addr, byte⟩] } := by
  obtain ⟨hvalue, hmem, haccepts⟩ := State.reply_platform h addr []
  rw [memRead_ok (haccepts _), State.didRead, hvalue, hmem]; rfl

theorem memWrite_platform {s : State} {byte : Byte} {changes : List (Word × Byte)}
    (h : s.reply = .platform (some byte) changes) (addr : Word) (v : Byte) :
    memWrite addr v s = .ok () { s with
      mem := s.mem.storeAll changes, replies := s.replies.tail, busCalls := s.busCalls ++ [⟨.write, addr, v⟩] } := by
  obtain ⟨-, hmem, haccepts⟩ := State.reply_platform h addr [(addr, v)]
  rw [memWrite_ok (haccepts _), State.didWrite, hmem]

/-- A platform that answers nothing fails the call, and may change bytes behind the bus (20_memory.md R59). -/
theorem memRead_platform_fails {s : State} {changes : List (Word × Byte)} (h : s.reply = .platform none changes)
    (addr : Word) : memRead addr s =
      .error (.busError addr .read) { s with mem := s.mem.storeAll changes, replies := s.replies.tail } := by
  obtain ⟨-, hmem, haccepts⟩ := State.reply_platform h addr []
  rw [memRead_rejected (Bool.eq_false_iff.1 (haccepts _)), State.rejected, hmem]

theorem memWrite_platform_fails {s : State} {changes : List (Word × Byte)} (h : s.reply = .platform none changes)
    (addr : Word) (v : Byte) : memWrite addr v s =
      .error (.busError addr .write) { s with mem := s.mem.storeAll changes, replies := s.replies.tail } := by
  obtain ⟨-, hmem, haccepts⟩ := State.reply_platform h addr []
  rw [memWrite_rejected (Bool.eq_false_iff.1 (haccepts _)), State.rejected, hmem]

theorem memRead16_ok {s : State} {addr : Word} (hlo : s.Readable addr) (hhi : (s.didRead addr).Readable (addr + 1)) :
    memRead16 addr s =
      .ok ((s.didRead addr).readValue (addr + 1) ++ s.readValue addr) ((s.didRead addr).didRead (addr + 1)) :=
  (op_bind_ok (memRead_ok hlo)).trans (op_bind_ok (memRead_ok hhi))

theorem memWrite16_ok {s : State} {addr v : Word} (hlo : s.Writable addr)
    (hhi : (s.didWrite addr (loByte v)).Writable (addr + 1)) :
    memWrite16 addr v s = .ok () ((s.didWrite addr (loByte v)).didWrite (addr + 1) (hiByte v)) :=
  (op_bind_ok (memWrite_ok hlo)).trans (memWrite_ok hhi)

theorem push16_ok {s : State} {v : Word} (h : s.CanPush v) : push16 v s = .ok () (s.pushed v) :=
  (push16_cases v s).elim (·.2) fun n => absurd h n.1

theorem pop16_ok {s : State} (h : s.CanPop) : pop16 s = .ok s.topWord s.popped :=
  (pop16_cases s).elim (·.2) fun n => absurd h n.1

/-! On a bus that acts as the memory (20_memory.md R64). -/

theorem State.BusIsMemory.readValue {s : State} (h : s.BusIsMemory) (addr : Word) : s.readValue addr = s.byteAt addr :=
  (State.reply_asMemory h.next.1 addr []).1

theorem State.BusIsMemory.byteAt_didRead {s : State} (h : s.BusIsMemory) (addr other : Word) :
    (s.didRead addr).byteAt other = s.byteAt other :=
  congrArg (Memory.read · other.toNat) (State.reply_asMemory h.next.1 addr []).2.1

theorem State.BusIsMemory.byteAt_didWrite {s : State} (h : s.BusIsMemory) (hwf : s.mem.wf) (addr : Word) (v : Byte)
    (other : Word) : (s.didWrite addr v).byteAt other = if other = addr then v else s.byteAt other := by
  rw [State.byteAt, State.didWrite_mem, (State.reply_asMemory h.next.1 addr _).2.1]
  exact (Memory.read_write hwf addr.toNat v other.toNat).trans (if_congr BitVec.toNat_inj rfl rfl)

theorem State.BusIsMemory.topWord {s : State} (h : s.BusIsMemory) : s.topWord = s.byteAt (s.sp + 1) ++ s.byteAt s.sp := by
  rw [State.topWord, (h.didRead _).readValue, h.readValue, h.byteAt_didRead]

/-- The pushed value is found little-endian at the new SP (20_memory.md R55). -/
theorem State.BusIsMemory.topWord_pushed {s : State} (h : s.BusIsMemory) (hwf : s.mem.wf) (v : Word) :
    (s.pushed v).topWord = v := by
  have next_sp : s.sp - 2 + 1 = s.sp - 1 := by bv_omega
  have distinct : s.sp - 1 ≠ s.sp - 2 := by bv_omega
  have first_write := h.byteAt_didWrite hwf (s.sp - 1) (hiByte v)
  have second_write :=
    (h.didWrite (s.sp - 1) (hiByte v)).byteAt_didWrite (State.memAfterCall_wf hwf _) (s.sp - 2) (loByte v)
  have hi : (s.pushed v).byteAt (s.sp - 1) = hiByte v :=
    (second_write _).trans ((if_neg distinct).trans ((first_write _).trans (if_pos rfl)))
  have lo : (s.pushed v).byteAt (s.sp - 2) = loByte v := (second_write _).trans (if_pos rfl)
  have bus_pushed : (s.pushed v).BusIsMemory := (h.didWrite _ (hiByte v)).didWrite (s.sp - 2) (loByte v)
  calc (s.pushed v).topWord
      = (s.pushed v).byteAt (s.sp - 2 + 1) ++ (s.pushed v).byteAt (s.sp - 2) := bus_pushed.topWord
    _ = hiByte v ++ loByte v := by rw [next_sp, hi, lo]
    _ = v := hiByte_append_loByte v

/-! A step whose fetch is rejected. -/

/-- An instruction that reports no count ends the step (60_exceptions.md R281, R283). -/
theorem step_of_execute {s t : State} (hrun : s.run = .running) (h : execute s.beginIteration = .next t)
    (hcycles : t.cycles = none) : step s = .next t := by
  unfold step iteration runningIteration
  simp only [hrun, h, hcycles]

end Sys2Proof.Machine

open Sys2Proof Sys2Proof.Machine

/-- Settles O15: the canonical form makes a store exact, and a bus that acts as the memory answers from it. -/
theorem memoryReadAfterWrite : Obligations.MemoryReadAfterWrite := by
  refine ⟨fun m addr v hm => ⟨?_, fun other ho => ?_⟩, fun s addr v hwf hbus => ?_⟩
  · rw [Memory.read_write hm, if_pos rfl]
  · rw [Memory.read_write hm, if_neg ho]
  · have read_didWrite (other) : (s.didWrite addr v).readValue other = if other = addr then v else s.byteAt other :=
      ((hbus.didWrite addr v).readValue other).trans (hbus.byteAt_didWrite hwf addr v other)
    exact ⟨(read_didWrite addr).trans (if_pos rfl),
      fun other ho => (read_didWrite other).trans ((if_neg ho).trans (hbus.readValue other).symm)⟩

/-- Settles O17: the two writes go to different addresses, and the pop reads both back. -/
theorem pushThenPop : Obligations.PushThenPop := fun s v =>
  ⟨push16_ok, pop16_ok, fun hwf hbus => hbus.topWord_pushed hwf v, BitVec.sub_add_cancel s.sp 2⟩

/-- Settles O18: the fetch ends Execute() at the first rejected byte, and a step with no count ends there. -/
theorem rejectedCallFaults : Obligations.RejectedCallFaults :=
  ⟨fun _ _ _ => ⟨memRead_rejected, memWrite_rejected, rfl⟩, fun _ _ hrun hk hbefore hrejected =>
    step_of_execute hrun (execute_fetch_rejected hk hbefore hrejected) rfl⟩

/-- Settles O14, by the kinds of reply. -/
theorem busCallsByReply : Obligations.BusCallsByReply := fun _ addr v =>
  ⟨fun h => ⟨memRead_asMemory h addr, memWrite_asMemory h addr v⟩,
    fun _ _ h => ⟨memRead_platform h addr, memWrite_platform h addr v⟩,
    fun _ h => ⟨memRead_platform_fails h addr, memWrite_platform_fails h addr v⟩⟩

/-- Settles O16: the low byte's call, then the high byte's. -/
theorem doubleByteAccess : Obligations.DoubleByteAccess := fun _ _ _ => ⟨memRead16_ok, memWrite16_ok, by decide⟩
end

section
/-! PROOFS. The memory frame (20_memory.md R58): which addresses each operation makes write calls at, and that only those
bytes and the ones the platform names change. -/

namespace Sys2Proof.Machine

/-- A store changes no byte at another address, whatever form the memory has. -/
theorem Memory.read_write_other (m : Memory) {addr other : Nat} (h : other ≠ addr) (v : Byte) :
    (m.write addr v).read other = m.read other := by
  induction m with
  | nil => by_cases hv : v = Memory.blank <;> simp [Memory.write, Memory.read, hv, h]
  | cons top rest ih =>
    obtain ⟨k, w⟩ := top
    rcases Nat.lt_trichotomy addr k with hlt | rfl | hgt
    · rw [Memory.write, if_pos hlt]
      by_cases hv : v = Memory.blank <;> simp [Memory.read, hv, h]
    · rw [Memory.write, if_neg (lt_irrefl addr), if_pos rfl]
      by_cases hv : v = Memory.blank <;> simp [Memory.read, hv, h]
    · rw [Memory.write, if_neg (by omega), if_neg (by omega), Memory.read, Memory.read, ih]

theorem Memory.read_storeAll_other (m : Memory) {cells : List (Word × Byte)} {addr : Word}
    (h : addr ∉ cells.map (·.1)) : (m.storeAll cells).read addr.toNat = m.read addr.toNat := by
  induction cells generalizing m with
  | nil => rfl
  | cons cell rest ih =>
    obtain ⟨hcell, hrest⟩ := not_or.1 (List.mem_cons.not.1 h)
    exact (ih _ hrest).trans (m.read_write_other (fun e => hcell (BitVec.eq_of_toNat_eq e)) cell.2)

/-- One call changes no byte but those it stores and those the platform names (D1). -/
theorem State.read_memAfterCall {s : State} {stored : List (Word × Byte)} {addr : Word}
    (hstored : addr ∉ stored.map (·.1)) (hplatform : addr ∉ s.platformChanges) :
    (s.memAfterCall stored).read addr.toNat = s.byteAt addr := by
  have hchanges : addr ∉ s.reply.changes.map (·.1) := by
    unfold State.platformChanges at hplatform
    unfold State.reply
    cases hr : s.replies with
    | nil => exact List.not_mem_nil
    | cons r rest => exact fun h => hplatform (List.mem_flatMap.2 ⟨r, hr ▸ List.mem_cons_self, h⟩)
  cases hreply : s.reply with
  | asMemory => rw [(State.reply_asMemory hreply 0 stored).2.1]; exact s.mem.read_storeAll_other hstored
  | platform result changes =>
    rw [hreply] at hchanges
    rw [(State.reply_platform hreply 0 stored).2.1]; exact s.mem.read_storeAll_other hchanges

/-- Between the two states write calls were made at the given addresses only, and no byte changed but there and where the
platform's coming replies name it. -/
structure StoresWithin (A : List Word) (s t : State) : Prop where
  busCalls : ∃ calls, t.busCalls = s.busCalls ++ calls ∧ ∀ c ∈ calls, c.dir = .write → c.addr ∈ A
  bytes : ∀ addr, addr ∉ A → addr ∉ s.platformChanges → t.byteAt addr = s.byteAt addr
  platform : ∀ addr, addr ∈ t.platformChanges → addr ∈ s.platformChanges

namespace StoresWithin

variable {A : List Word}

/-- An update of the core's own fields and of the count. -/
theorem core (s : State) (a b c d e h l : Byte) (f : Flags) (sp pc : Word) (ime eiDelay : Bool) (run : RunState)
    (cycles : Option Nat) : StoresWithin A s { s with
      a := a, b := b, c := c, d := d, e := e, h := h, l := l, f := f, sp := sp, pc := pc
      ime := ime, eiDelay := eiDelay, run := run, cycles := cycles } where
  busCalls := ⟨[], (List.append_nil _).symm, nofun⟩
  bytes _ _ _ := rfl
  platform _ h := h

theorem refl (s : State) : StoresWithin A s s := core s ..

theorem composes (A : List Word) : Composes (StoresWithin A) where
  refl := refl
  trans h k := by
    obtain ⟨calls, hcalls, hin⟩ := h.busCalls
    obtain ⟨more, hmore, hin'⟩ := k.busCalls
    exact {
      busCalls := ⟨calls ++ more, by rw [hmore, hcalls, List.append_assoc],
        fun c hc => (List.mem_append.1 hc).elim (hin c) (hin' c)⟩
      bytes := fun addr ha hp => (k.bytes addr ha fun hp' => hp (h.platform addr hp')).trans (h.bytes addr ha hp)
      platform := fun addr hp => h.platform addr (k.platform addr hp) }

/-- A bus call that stores within the addresses and records, if anything, itself. -/
theorem call {s t : State} {stored : List (Word × Byte)} (hmem : t.mem = s.memAfterCall stored)
    (hreplies : t.replies = s.replies.tail) (hstored : ∀ p ∈ stored, p.1 ∈ A) {calls : List BusCall}
    (hcalls : t.busCalls = s.busCalls ++ calls) (hin : ∀ c ∈ calls, c.dir = .write → c.addr ∈ A) :
    StoresWithin A s t where
  busCalls := ⟨calls, hcalls, hin⟩
  bytes addr ha hp := by
    have hother : addr ∉ stored.map (·.1) := fun h => by
      obtain ⟨p, hmem, rfl⟩ := List.mem_map.1 h
      exact ha (hstored p hmem)
    unfold State.byteAt
    rw [hmem]
    exact State.read_memAfterCall hother hp
  platform addr h := by
    unfold State.platformChanges at h ⊢
    rw [hreplies] at h
    obtain ⟨r, hr, hc⟩ := List.mem_flatMap.1 h
    exact List.mem_flatMap.2 ⟨r, List.mem_of_mem_tail hr, hc⟩

theorem rejected (s : State) : StoresWithin A s s.rejected :=
  call rfl rfl nofun (List.append_nil _).symm nofun

theorem didRead (s : State) (addr : Word) : StoresWithin A s (s.didRead addr) :=
  call rfl rfl nofun rfl fun _ hc hw => by rw [List.mem_singleton.1 hc] at hw; cases hw

theorem didWrite (s : State) {addr : Word} (h : addr ∈ A) (v : Byte) : StoresWithin A s (s.didWrite addr v) :=
  call rfl rfl (fun _ hp => List.mem_singleton.1 hp ▸ h) rfl fun _ hc _ => List.mem_singleton.1 hc ▸ h

end StoresWithin

/-- An operation that from this state makes write calls at these addresses only, with or without a fault. -/
abbrev StoresFrom (s : State) (A : List Word) {α : Type} (op : Op α) : Prop :=
  OpFrom (StoresWithin A) (fun _ => True) s op

/-- An operation that makes write calls at these addresses only, whatever state it starts in. -/
abbrev StoresOnly (A : List Word) {α : Type} (op : Op α) : Prop :=
  OpKeeps (fun _ => True) (StoresWithin A) (fun _ => True) op

namespace StoresOnly

variable {α β : Type} {A : List Word}

/-! The primitives of the pseudocode (00_scope.md R7). -/

theorem pure (v : α) : StoresOnly A (Pure.pure v : Op α) := fun s _ => from_pure (.refl s) v

theorem bind {x : Op α} {f : α → Op β} (hx : StoresOnly A x) (hf : ∀ v, StoresOnly A (f v)) : StoresOnly A (x >>= f) :=
  fun s hs => from_bind (StoresWithin.composes A) (hx s hs) fun v t _ _ => hf v t trivial

theorem returning {x : Op Unit} (hx : StoresOnly A x) (n : Nat) : StoresOnly A (x >>= fun _ => Pure.pure n) :=
  bind hx fun _ => pure n

theorem raise (f : Fault) : StoresOnly A (Machine.raise f : Op α) :=
  fun s _ => from_raise (.refl s) trivial

theorem memRead (addr : Word) : StoresOnly A (memRead addr) :=
  fun s _ => from_memRead addr (.rejected s) (.didRead s addr) fun _ => trivial

theorem memWrite {addr : Word} (h : addr ∈ A) (v : Byte) : StoresOnly A (memWrite addr v) :=
  fun s _ => from_memWrite addr v (.rejected s) (.didWrite s h v) fun _ => trivial

theorem halfCarry (op : KernelOp) (left : Nat) (rights : List Nat) : StoresOnly A (halfCarry op 8 left rights) :=
  fun s _ => from_halfCarry (.refl s) op rfl left rights

theorem updateR8 (r : Reg8) (v : State → Byte) : StoresOnly A (updateState fun s => s.setR8 r (v s)) :=
  .update fun s => by cases r <;> exact .core s ..

theorem updateR16 (r : Reg16) (v : State → Word) : StoresOnly A (updateState fun s => s.setR16 r (v s)) :=
  .update fun s => by cases r <;> exact .core s ..

theorem updateR16S (r : Reg16S) (v : State → Word) : StoresOnly A (updateState fun s => s.setR16S r (v s)) :=
  .update fun s => by cases r <;> exact .core s ..

theorem updateHl (v : State → Word) : StoresOnly A (updateState fun s => s.setHl (v s)) := updateR16 .hl v

theorem setFlags (f : Flags) : StoresOnly A (setFlags f) := .update fun s => .core s ..

theorem fetch8 : StoresOnly A fetch8 :=
  .read fun _ => bind (memRead _) fun v => bind (.update fun s => .core s ..) fun _ => pure v

theorem popByte : StoresOnly A popByte :=
  .read fun _ => bind (memRead _) fun v => bind (.update fun s => .core s ..) fun _ => pure v

theorem pop16 : StoresOnly A pop16 := bind popByte fun _ => bind popByte fun _ => pure _

/-! What stores nothing, under any addresses: loads (40_loads.md) and POP (47_stack.md). -/

/-- A byte read into A, and the count. -/
theorem loadingA (addr : Word) (n : Nat) : StoresOnly A (Machine.memRead addr >>= fun v =>
    updateState (fun s => { s with a := v }) >>= fun _ => Pure.pure n) :=
  bind (memRead _) fun v => returning (updateR8 .a fun _ => v) n

theorem ldRR (dst src : Reg8) : StoresOnly A (ldRR dst src) := returning (updateR8 dst (·.getR8 src)) 1

theorem ldRMemHl (dst : Reg8) : StoresOnly A (ldRMemHl dst) :=
  .read fun _ => bind (memRead _) fun v => returning (updateR8 dst fun _ => v) 2

theorem ldRD8 (dst : Reg8) (n : Byte) : StoresOnly A (ldRD8 dst n) := returning (updateR8 dst fun _ => n) 2

theorem ldAMemRr (rr : Reg16) : StoresOnly A (ldAMemRr rr) := .read fun _ => loadingA _ 2

theorem ldAMemC : StoresOnly A ldAMemC := .read fun _ => loadingA _ 2

theorem ldAMemHlStep (delta : Word) : StoresOnly A (ldAMemHlStep delta) :=
  .read fun _ => bind (memRead _) fun v => bind (updateR8 .a fun _ => v) fun _ => returning (updateHl (·.hl + delta)) 2

theorem ldRrD16 (rr : Reg16) (nn : Word) : StoresOnly A (ldRrD16 rr nn) := returning (updateR16 rr fun _ => nn) 3

theorem ldSpHl : StoresOnly A ldSpHl := returning (updateR16 .sp (·.hl)) 2

theorem popRr (rr : Reg16S) : StoresOnly A (popRr rr) := bind pop16 fun v => returning (updateR16S rr fun _ => v) 3

/-! Arithmetic and logic on registers and on a byte read (41_incdec.md to 43_alu16.md). -/

theorem incDecFlags (op : KernelOp) (v w : Byte) : StoresOnly A (incDecFlags op v w) :=
  bind (halfCarry op _ _) fun _ => .update fun s => .core s ..

theorem incDecR (op : KernelOp) (r : Reg8) : StoresOnly A (incDecR op r) :=
  .read fun _ => bind (updateR8 r fun _ => _) fun _ => returning (incDecFlags op _ _) 1

theorem incDecRr (op : KernelOp) (rr : Reg16) : StoresOnly A (incDecRr op rr) :=
  returning (updateR16 rr fun s => apply16 op (s.getR16 rr) [1]) 2

theorem aluArith (op : KernelOp) (a : Byte) (rights : List Nat) : StoresOnly A (aluArith op a rights) :=
  bind (halfCarry op _ _) fun _ => bind (setFlags _) fun _ => pure _

theorem aluLogic (op : KernelOp) (half : Bool) (a b : Byte) : StoresOnly A (aluLogic op half a b) :=
  bind (setFlags _) fun _ => pure _

theorem aluResult (op : AluOp) (a b : Byte) : StoresOnly A (aluResult op a b) :=
  .read fun _ => match op with
    | .add | .adc | .sub | .sbc | .cp => aluArith _ _ _
    | .and | .xor | .or => aluLogic _ _ _ _

theorem aluAccumulate (op : AluOp) (b : Byte) : StoresOnly A (aluAccumulate op b) :=
  .read fun _ => bind (aluResult op _ _) fun v => match op with
    | .cp => .update fun s => .core s ..
    | .add | .adc | .sub | .sbc | .and | .xor | .or => updateR8 .a fun _ => v

theorem aluR (op : AluOp) (r : Reg8) : StoresOnly A (aluR op r) := .read fun _ => returning (aluAccumulate op _) 1

theorem aluMemHl (op : AluOp) : StoresOnly A (aluMemHl op) :=
  .read fun _ => bind (memRead _) fun _ => returning (aluAccumulate op _) 2

theorem aluD8 (op : AluOp) (n : Byte) : StoresOnly A (aluD8 op n) := returning (aluAccumulate op n) 2

theorem addHlRr (rr : Reg16) : StoresOnly A (addHlRr rr) :=
  .read fun _ => bind (updateHl fun _ => _) fun _ => returning (setFlags _) 2

theorem addSpE8 (e : Byte) : StoresOnly A (addSpE8 e) :=
  .read fun _ => bind (updateR16 .sp (spPlus ·.sp e)) fun _ => returning (setFlags _) 4

theorem ldHlSpE8 (e : Byte) : StoresOnly A (ldHlSpE8 e) :=
  .read fun _ => bind (updateHl (spPlus ·.sp e)) fun _ => returning (setFlags _) 3

/-! Rotates, shifts and bits of registers, and BIT (44_rotate_shift.md, 45_bit.md). -/

theorem rotA (op : RotOp) : StoresOnly A (rotA op) :=
  .read fun _ => bind (updateR8 .a fun _ => _) fun _ => returning (setFlags _) 1

theorem rotR (op : RotOp) (r : Reg8) : StoresOnly A (rotR op r) :=
  .read fun _ => bind (updateR8 r fun _ => _) fun _ => returning (setFlags _) 1

theorem bitR (i : Fin 8) (r : Reg8) : StoresOnly A (bitR i r) :=
  returning (.update fun s => .core s ..) 1

theorem bitMemHl (i : Fin 8) : StoresOnly A (bitMemHl i) :=
  .read fun _ => bind (memRead _) fun _ => returning (.update fun s => .core s ..) 2

theorem putBitR (i : Fin 8) (b : Bool) (r : Reg8) : StoresOnly A (putBitR i b r) :=
  returning (updateR8 r fun s => setBit (s.getR8 r) i b) 1

theorem prefixed {op : Op Nat} (h : StoresOnly A op) : StoresOnly A (prefixed op) := bind h fun _ => pure _

theorem cbHandlerR (x : Nat) (y : Fin 8) (r : Reg8) : StoresOnly A (cbHandlerR x y r) := by
  unfold Machine.cbHandlerR
  split
  · exact rotR _ r
  · exact bitR y r
  · exact putBitR y false r
  · exact putBitR y true r

/-! Jumps and returns (46_control.md) and the instructions of 48_misc.md. -/

theorem jumpTo (target : Word) : StoresOnly A (jumpTo target) := .update fun s => .core s ..

theorem jumpRelative (e : Byte) : StoresOnly A (jumpRelative e) := .update fun s => .core s ..

theorem returnTo : StoresOnly A returnTo := bind pop16 fun _ => jumpTo _

theorem jpHl : StoresOnly A jpHl := .read fun _ => returning (jumpTo _) 1

theorem conditional (cc : Cond) {transfer : Op Unit} (h : StoresOnly A transfer) (taken notTaken : Nat) :
    StoresOnly A (conditional cc transfer taken notTaken) :=
  .read fun _ => by
    split
    · exact returning h taken
    · exact pure notTaken

theorem reti : StoresOnly A reti :=
  returning (bind pop16 fun _ => .update fun s => .core s ..) 4

theorem daa : StoresOnly A daa := returning (.update fun s => .core s ..) 1

theorem cpl : StoresOnly A cpl := returning (.update fun s => .core s ..) 1

theorem scf : StoresOnly A scf := returning (.update fun s => .core s ..) 1

theorem ccf : StoresOnly A ccf := returning (.update fun s => .core s ..) 1

theorem halt : StoresOnly A halt := returning (.update fun s => .core s ..) 1

theorem di : StoresOnly A di := returning (.update fun s => .core s ..) 1

theorem ei : StoresOnly A ei := returning (.update fun s => .core s ..) 1

theorem stop : StoresOnly A stop :=
  .read fun _ => by
    split
    · exact raise _
    · exact bind fetch8 fun _ => pure 1

theorem illegalOpcode (op : Byte) : StoresOnly A (illegalOpcode op) := .read fun _ => raise _

end StoresOnly

/-! What stores: the addresses are formed in the state the operation starts in. -/

namespace StoresFrom

variable {α : Type} {A : List Word} {s : State}

/-- The rest of an operation that stores nothing outside the addresses. -/
theorem andThen {β : Type} {x : Op α} {f : α → Op β} (hx : StoresFrom s A x) (hf : ∀ v, StoresOnly A (f v)) :
    StoresFrom s A (x >>= f) :=
  from_bind (StoresWithin.composes A) hx fun v t _ _ => hf v t trivial

theorem returning {x : Op Unit} (hx : StoresFrom s A x) (n : Nat) : StoresFrom s A (x >>= fun _ => pure n) :=
  andThen hx fun _ => .pure n

theorem prefixed {op : Op Nat} (h : StoresFrom s A op) : StoresFrom s A (prefixed op) := andThen h fun _ => .pure _

/-- A byte stored at an address formed from the state, and the count (40_loads.md). -/
theorem storing (addr : State → Word) (v : State → Byte) (n : Nat) (s : State) :
    StoresFrom s [addr s] (getState >>= fun s => memWrite (addr s) (v s) >>= fun _ => pure n) :=
  from_getState (StoresOnly.returning (.memWrite List.mem_cons_self _) n s trivial)

theorem ldMemHlStepA (delta : Word) (s : State) : StoresFrom s [s.hl] (ldMemHlStepA delta) :=
  from_getState (StoresOnly.bind (.memWrite List.mem_cons_self _)
    (fun _ => .returning (.updateHl (·.hl + delta)) 2) s trivial)

theorem ldMemA16Sp (addr : Word) : StoresOnly [addr, addr + 1] (ldMemA16Sp addr) :=
  .read fun _ => StoresOnly.returning (StoresOnly.bind (.memWrite List.mem_cons_self _) fun _ =>
    .memWrite (List.mem_cons_of_mem _ List.mem_cons_self) _) 5

/-- A byte at HL read, worked on and written back (41_incdec.md, 44_rotate_shift.md, 45_bit.md). -/
theorem readThenWrite {f : State → Byte → Byte} {rest : State → Byte → Op Nat} (hrest : ∀ s v, StoresOnly A (rest s v))
    (h : s.hl ∈ A) : StoresFrom s A (getState >>= fun s => memRead s.hl >>= fun v =>
      memWrite s.hl (f s v) >>= fun _ => rest s v) :=
  from_getState (StoresOnly.bind (.memRead _) (fun _ => .bind (.memWrite h _) fun _ => hrest _ _) s trivial)

theorem incDecMemHl (op : KernelOp) (s : State) : StoresFrom s [s.hl] (incDecMemHl op) :=
  readThenWrite (f := fun _ v => apply8 op v [1]) (fun _ v => .returning (.incDecFlags op v _) 3) List.mem_cons_self

theorem rotMemHl (op : RotOp) (s : State) : StoresFrom s [s.hl] (rotMemHl op) :=
  readThenWrite (f := fun s v => (rotResult op s.f.c v).1) (fun _ _ => .returning (.setFlags _) 3) List.mem_cons_self

theorem putBitMemHl (i : Fin 8) (b : Bool) (s : State) : StoresFrom s [s.hl] (putBitMemHl i b) :=
  readThenWrite (f := fun _ v => setBit v i b) (fun _ _ => .pure 3) List.mem_cons_self

theorem cbHandlerMemHl (x : BitVec 2) (y : Fin 8) (s : State) :
    StoresFrom s (if x ≠ 1 then [s.hl] else []) (cbHandlerMemHl x.toNat y) := by
  rcases WritesWithin.bitVec2_cases x with rfl | rfl | rfl | rfl
  · exact rotMemHl _ s
  · exact StoresOnly.bitMemHl y s trivial
  · exact putBitMemHl y false s
  · exact putBitMemHl y true s

theorem storedAddrs_prefixCb (cb : Byte) (s : State) : storedAddrs (.prefixCb cb) s =
    if cbTarget (cb.extractLsb' 0 3).toFin = none ∧ cb.extractLsb' 6 2 ≠ 1 then [s.hl] else [] := rfl

/-- A CB handler stores at HL when its target is the byte there and it is not BIT (30_encoding.md R76). -/
theorem cbHandler (cb : Byte) (s : State) : StoresFrom s (storedAddrs (.prefixCb cb) s) (cbHandler cb) := by
  rw [storedAddrs_prefixCb, Machine.cbHandler]
  cases cbTarget (cb.extractLsb' 0 3).toFin with
  | some r => exact StoresOnly.cbHandlerR _ _ r s trivial
  | none =>
    simp only [true_and]
    exact cbHandlerMemHl _ _ s

/-! The stack (20_memory.md R55): the second byte's address follows from where the first byte's write left SP. -/

theorem pushByte (v : Byte) (h : s.sp - 1 ∈ A) : StoresFrom s A (pushByte v) :=
  from_bind (StoresWithin.composes A) (from_updateState (.core s ..)) fun _ t e _ => by
    cases e
    exact from_getState (StoresOnly.memWrite h v _ trivial)

theorem sp_of_pushByte {v : Byte} {t : State} (h : Machine.pushByte v s = .ok () t) : t.sp = s.sp - 1 := by
  rcases pushByte_cases v s with ⟨-, e⟩ | ⟨-, e⟩ <;> cases e.symm.trans h
  rfl

theorem push16 (v : Word) (s : State) : StoresFrom s [s.sp - 1, s.sp - 2] (push16 v) := by
  refine from_bind (StoresWithin.composes _) (pushByte _ List.mem_cons_self) fun _ t e _ => pushByte _ ?_
  have next_sp : t.sp - 1 = s.sp - 2 := by rw [sp_of_pushByte e, BitVec.sub_sub]; rfl
  exact next_sp ▸ List.mem_cons_of_mem _ List.mem_cons_self

theorem pushRr (rr : Reg16S) (s : State) : StoresFrom s [s.sp - 1, s.sp - 2] (pushRr rr) :=
  from_getState (returning (push16 _ s) 4)

theorem callTo (target : Word) (s : State) : StoresFrom s [s.sp - 1, s.sp - 2] (callTo target) :=
  from_getState (andThen (push16 _ s) fun _ => .jumpTo target)

/-- A transfer that is not taken stores nothing (46_control.md R227). -/
theorem conditional (cc : Cond) {transfer : Op Unit} (h : StoresFrom s A transfer) (taken notTaken : Nat) :
    StoresFrom s (if s.f.holds cc then A else []) (conditional cc transfer taken notTaken) := by
  refine from_getState ?_
  split
  · exact returning h taken
  · exact StoresOnly.pure notTaken s trivial

end StoresFrom

/-! What Footprint.lean says of the storing families, in terms of the operand fields. -/

theorem storedAddrs_ldMemHlR (x : Reg8) (s : State) : storedAddrs (Instr.ldMemHlR x) s = [s.hl] := by cases x <;> rfl

theorem storedAddrs_ldMemHlStepA (up : Bool) (s : State) : storedAddrs (Instr.ldMemHlStepA up) s = [s.hl] := by
  cases up <;> rfl

theorem storedAddrs_rotMemHl (op : RotOp) (s : State) : storedAddrs (Instr.rotMemHl op) s = [s.hl] := by cases op <;> rfl

theorem storedAddrs_resMemHl (i : Fin 8) (s : State) : storedAddrs (Instr.resMemHl i) s = [s.hl] := by
  fin_cases i <;> rfl

theorem storedAddrs_setMemHl (i : Fin 8) (s : State) : storedAddrs (Instr.setMemHl i) s = [s.hl] := by
  fin_cases i <;> rfl

theorem storedAddrs_pushRr (x : Reg16S) (s : State) : storedAddrs (Instr.pushRr x) s = [s.sp - 1, s.sp - 2] := by
  cases x <;> rfl

theorem storedAddrs_rst (y : Fin 8) (s : State) : storedAddrs (Instr.rst y) s = [s.sp - 1, s.sp - 2] := by
  fin_cases y <;> rfl

theorem storedAddrs_callCcA16 (cc : Cond) (addr : Word) (s : State) : storedAddrs (Instr.callCcA16 cc addr) s =
    if s.f.holds cc then [s.sp - 1, s.sp - 2] else [] := by cases cc <;> rfl

/-- The instruction makes write calls at its listed addresses only. -/
def StoresAsListed (i : Instr) : Prop := ∀ s s', exec i s = .next s' → StoresWithin (storedAddrs i s) s s'

namespace StoresAsListed

theorem of_from {i : Instr} {op : Op Nat} {A : State → List Word} (hop : ∀ s, StoresFrom s (A s) op)
    (hexec : ∀ s, exec i s = handler op s) (hA : ∀ s, storedAddrs i s = A s) : StoresAsListed i := fun s _ h =>
  hA s ▸ handler_keeps (StoresWithin.composes _) (hop s) (fun t _ => .core t ..) (fun t _ _ => .core t ..)
    ((hexec s).symm.trans h)

/-- An operation that stores nothing outside any addresses keeps to the listed ones, whatever they are. -/
theorem of_only {i : Instr} {op : Op Nat} (hop : ∀ A, StoresOnly A op) (hexec : ∀ s, exec i s = handler op s) :
    StoresAsListed i := of_from (A := storedAddrs i) (fun s => hop _ s trivial) hexec fun _ => rfl

end StoresAsListed

/-- By the families of the opcode map: what stores, at the addresses its rule forms, and what stores nothing. -/
theorem StoresOnly.storesAsListed : ∀ i : Instr, StoresAsListed i := by
  apply Instr.byFamily
  case ldMemHlR =>
    exact fun x => .of_from (StoresFrom.storing (·.hl) (·.getR8 x) 2) (exec_ldMemHlR x) (storedAddrs_ldMemHlR x)
  case ldMemHlStepA =>
    exact fun up => .of_from (StoresFrom.ldMemHlStepA _) (exec_ldMemHlStepA up) (storedAddrs_ldMemHlStepA up)
  case rotMemHl =>
    exact fun op => .of_from (fun s => StoresFrom.prefixed (StoresFrom.rotMemHl op s))
      (exec_rotMemHl op) (storedAddrs_rotMemHl op)
  case resMemHl =>
    exact fun i => .of_from (fun s => StoresFrom.prefixed (StoresFrom.putBitMemHl i false s))
      (exec_resMemHl i) (storedAddrs_resMemHl i)
  case setMemHl =>
    exact fun i => .of_from (fun s => StoresFrom.prefixed (StoresFrom.putBitMemHl i true s))
      (exec_setMemHl i) (storedAddrs_setMemHl i)
  case callCcA16 =>
    exact fun cc addr => .of_from (fun s => StoresFrom.conditional cc (StoresFrom.callTo addr s) 6 3)
      (exec_callCcA16 cc addr) (storedAddrs_callCcA16 cc addr)
  case rst =>
    exact fun y => .of_from (fun s => StoresFrom.returning (StoresFrom.callTo _ s) 4) (exec_rst y) (storedAddrs_rst y)
  case pushRr => exact fun x => .of_from (StoresFrom.pushRr x) (exec_pushRr x) (storedAddrs_pushRr x)
  case ldMemBcA => exact .of_from (StoresFrom.storing (·.bc) (·.a) 2) (fun _ => rfl) fun _ => rfl
  case ldMemDeA => exact .of_from (StoresFrom.storing (·.de) (·.a) 2) (fun _ => rfl) fun _ => rfl
  case ldMemA16A => exact fun addr => .of_from (StoresFrom.storing (fun _ => addr) (·.a) 4) (fun _ => rfl) fun _ => rfl
  case ldhMemA8A =>
    exact fun n => .of_from (StoresFrom.storing (fun _ => highPage n) (·.a) 3) (fun _ => rfl) fun _ => rfl
  case ldMemCA => exact .of_from (StoresFrom.storing (highPage ·.c) (·.a) 2) (fun _ => rfl) fun _ => rfl
  case ldMemHlD8 => exact fun n => .of_from (StoresFrom.storing (·.hl) (fun _ => n) 3) (fun _ => rfl) fun _ => rfl
  case ldMemA16Sp =>
    exact fun addr => .of_from (fun s => StoresFrom.ldMemA16Sp addr s trivial) (fun _ => rfl) fun _ => rfl
  case incMemHl => exact .of_from (StoresFrom.incDecMemHl .add) (fun _ => rfl) fun _ => rfl
  case decMemHl => exact .of_from (StoresFrom.incDecMemHl .sub) (fun _ => rfl) fun _ => rfl
  case callA16 =>
    exact fun addr => .of_from (fun s => StoresFrom.returning (StoresFrom.callTo addr s) 6) (fun _ => rfl) fun _ => rfl
  case prefixCb =>
    exact fun cb => .of_from (fun s => StoresFrom.prefixed (StoresFrom.cbHandler cb s)) (fun _ => rfl) fun _ => rfl
  case ldRR => exact fun x y => .of_only (fun _ => ldRR x y) (exec_ldRR x y)
  case ldRMemHl => exact fun x => .of_only (fun _ => ldRMemHl x) (exec_ldRMemHl x)
  case ldRD8 => exact fun x n => .of_only (fun _ => ldRD8 x n) (exec_ldRD8 x n)
  case ldRrD16 => exact fun x nn => .of_only (fun _ => ldRrD16 x nn) (exec_ldRrD16 x nn)
  case ldAMemHlStep => exact fun up => .of_only (fun _ => ldAMemHlStep _) (exec_ldAMemHlStep up)
  case popRr => exact fun x => .of_only (fun _ => popRr x) (exec_popRr x)
  case incR => exact fun x => .of_only (fun _ => incDecR .add x) (exec_incR x)
  case decR => exact fun x => .of_only (fun _ => incDecR .sub x) (exec_decR x)
  case incRr => exact fun x => .of_only (fun _ => incDecRr .add x) (exec_incRr x)
  case decRr => exact fun x => .of_only (fun _ => incDecRr .sub x) (exec_decRr x)
  case aluR => exact fun op x => .of_only (fun _ => aluR op x) (exec_aluR op x)
  case aluMemHl => exact fun op => .of_only (fun _ => aluMemHl op) (exec_aluMemHl op)
  case aluD8 => exact fun op n => .of_only (fun _ => aluD8 op n) (exec_aluD8 op n)
  case addHlRr => exact fun x => .of_only (fun _ => addHlRr x) (exec_addHlRr x)
  case rotR => exact fun op x => .of_only (fun _ => prefixed (rotR op x)) (exec_rotR op x)
  case bitR => exact fun i x => .of_only (fun _ => prefixed (bitR i x)) (exec_bitR i x)
  case bitMemHl => exact fun i => .of_only (fun _ => prefixed (bitMemHl i)) (exec_bitMemHl i)
  case resR => exact fun i x => .of_only (fun _ => prefixed (putBitR i false x)) (exec_resR i x)
  case setR => exact fun i x => .of_only (fun _ => prefixed (putBitR i true x)) (exec_setR i x)
  case jpCcA16 => exact fun cc addr => .of_only (fun _ => conditional cc (jumpTo addr) 4 3) (exec_jpCcA16 cc addr)
  case jrCcE8 => exact fun cc e => .of_only (fun _ => conditional cc (jumpRelative e) 3 2) (exec_jrCcE8 cc e)
  case retCc => exact fun cc => .of_only (fun _ => conditional cc returnTo 5 2) (exec_retCc cc)
  case illegal => exact fun k => .of_only (fun _ => illegalOpcode _) (exec_illegal k)
  case ldAMemBc => exact .of_only (fun _ => ldAMemRr .bc) fun _ => rfl
  case ldAMemDe => exact .of_only (fun _ => ldAMemRr .de) fun _ => rfl
  case ldAMemA16 => exact fun addr => .of_only (fun _ => loadingA addr 4) fun _ => rfl
  case ldhAMemA8 => exact fun n => .of_only (fun _ => loadingA (highPage n) 3) fun _ => rfl
  case ldAMemC => exact .of_only (fun _ => ldAMemC) fun _ => rfl
  case ldSpHl => exact .of_only (fun _ => ldSpHl) fun _ => rfl
  case addSpE8 => exact fun e => .of_only (fun _ => addSpE8 e) fun _ => rfl
  case ldHlSpE8 => exact fun e => .of_only (fun _ => ldHlSpE8 e) fun _ => rfl
  case rlca => exact .of_only (fun _ => rotA .rlc) fun _ => rfl
  case rrca => exact .of_only (fun _ => rotA .rrc) fun _ => rfl
  case rla => exact .of_only (fun _ => rotA .rl) fun _ => rfl
  case rra => exact .of_only (fun _ => rotA .rr) fun _ => rfl
  case daa => exact .of_only (fun _ => daa) fun _ => rfl
  case cpl => exact .of_only (fun _ => cpl) fun _ => rfl
  case scf => exact .of_only (fun _ => scf) fun _ => rfl
  case ccf => exact .of_only (fun _ => ccf) fun _ => rfl
  case jpA16 => exact fun addr => .of_only (fun _ => returning (jumpTo addr) 4) fun _ => rfl
  case jrE8 => exact fun e => .of_only (fun _ => returning (jumpRelative e) 3) fun _ => rfl
  case jpHl => exact .of_only (fun _ => jpHl) fun _ => rfl
  case ret => exact .of_only (fun _ => returning returnTo 4) fun _ => rfl
  case reti => exact .of_only (fun _ => reti) fun _ => rfl
  case nop => exact .of_only (fun _ => pure 1) fun _ => rfl
  case halt => exact .of_only (fun _ => halt) fun _ => rfl
  case stop => exact .of_only (fun _ => stop) fun _ => rfl
  case di => exact .of_only (fun _ => di) fun _ => rfl
  case ei => exact .of_only (fun _ => ei) fun _ => rfl

end Sys2Proof.Machine

open Sys2Proof Sys2Proof.Machine

/-- Settles O57: every instruction makes write calls at its listed addresses only, and calls change no other byte. -/
theorem memoryFrame : Obligations.MemoryFrame := fun i s s' h =>
  have k := StoresOnly.storesAsListed i s s' h
  ⟨k.busCalls, k.bytes⟩
end

section
/-! PROOFS. Decoding and encoding (30_encoding.md R70 to R83): every cell of the grids encodes to the bytes that select it,
every whole instruction decodes from its encoding, and decoding fails on short sequences only. -/

namespace Sys2Proof

/-- The opcode of row `r` and column `c` of a grid (30_encoding.md R79, R80). -/
def gridOpcode (r c : Fin 16) : Byte := BitVec.ofNat 8 (16 * r + c)

theorem gridOpcode_nibbles (op : Byte) (hrow : op.toNat / 16 < 16) (hcol : op.toNat % 16 < 16) :
    gridOpcode ⟨_, hrow⟩ ⟨_, hcol⟩ = op := by
  simp only [gridOpcode, Nat.div_add_mod, BitVec.ofNat_toNat, BitVec.setWidth_eq]

theorem getD_ofFn {α : Type} {n i : Nat} (f : Fin n → α) (d : α) (h : i < n) : (List.ofFn f).getD i d = f ⟨i, h⟩ := by
  rw [List.getD_eq_getElem _ _ (by rwa [List.length_ofFn]), List.getElem_ofFn]

/-- A function of the cells that is known row by row and column by column is known at every opcode. -/
theorem apply_gridCell {α : Type} {grid : List (List Instr)} {f : Instr → α} {g : Byte → α}
    (h : grid.map (·.map f) = List.ofFn fun r => List.ofFn fun c => g (gridOpcode r c)) (op : Byte) :
    f (gridCell grid op) = g op := by
  have hrow : op.toNat / 16 < 16 := by have := op.isLt; omega
  have hcol : op.toNat % 16 < 16 := Nat.mod_lt _ (by decide)
  calc f (gridCell grid op)
    _ = ((grid.map (·.map f)).getD (op.toNat / 16) []).getD (op.toNat % 16) (f .nop) := by
      rw [← List.map_nil (f := f), List.getD_map, List.getD_map]; rfl
    _ = g (gridOpcode ⟨_, hrow⟩ ⟨_, hcol⟩) := by rw [h, getD_ofFn _ _ hrow, getD_ofFn _ _ hcol]
    _ = g op := by rw [gridOpcode_nibbles]

/-- Every value of the CB byte is a whole instruction (30_encoding.md R80). -/
theorem wellFormed_decodeCb (cb : Byte) : (decodeCb cb).wellFormed = true := apply_gridCell (g := fun _ => true) rfl cb

/-- A cell of the CB grid encodes to 0xCB and the CB byte that selects it (30_encoding.md R80). -/
theorem encode_decodeCb (cb : Byte) : encode (decodeCb cb) = [0xCB#8, cb] := apply_gridCell (g := ([0xCB#8, ·])) rfl cb

/-- A cell of the primary grid encodes to the opcode that selects it and its operand bytes (30_encoding.md R70, R77, R79);
STOP's second byte is the conventional one (48_misc.md R256). -/
theorem encode_decodePrimary (op b1 b2 : Byte) : encode (decodePrimary op b1 b2) =
    op :: [if op = 0x10#8 then 0x00#8 else b1, b2].take (instrLength op - 1) := by
  have hcell := apply_gridCell (grid := primaryGrid b1 b2) (f := encode) (g := fun op => op ::
    if instrLength op = 3 then [loByte (mkWord b2 b1), hiByte (mkWord b2 b1)]
    else [if op = 0x10#8 then 0x00#8 else b1].take (instrLength op - 1)) rfl op
  have hstop : instrLength op = 3 → op ≠ 0x10#8 := by rintro h rfl; exact absurd h (by decide)
  rw [decodePrimary, hcell, mkWord_eq, loByte_append, hiByte_append]
  rcases instrLength_cases op with h | h | h <;> simp [h, hstop]

/-- The CB table's entry stands for the primary table's PREFIX CB (48_misc.md R259). -/
theorem encode_decodeBytes (op b1 b2 : Byte) : encode (decodeBytes op b1 b2) =
    op :: [if op = 0x10#8 then 0x00#8 else b1, b2].take (instrLength op - 1) := by
  rw [← encode_decodePrimary, decodeBytes]
  split
  · next cb h => rw [h, encode_decodeCb]; rfl
  · rfl

theorem wellFormed_of_ne_prefixCb {i : Instr} (h : ∀ cb, i ≠ .prefixCb cb) : i.wellFormed = true := by
  unfold Instr.wellFormed
  split
  · next cb => exact absurd rfl (h cb)
  · rfl

/-- Decoding never answers PREFIX CB by itself (30_encoding.md R80). -/
theorem wellFormed_decodeBytes (op b1 b2 : Byte) : (decodeBytes op b1 b2).wellFormed = true := by
  unfold decodeBytes
  split
  · exact wellFormed_decodeCb _
  · next h => exact wellFormed_of_ne_prefixCb h

/-- A 16-bit immediate is put together again from its two bytes (30_encoding.md R77). -/
theorem decode_word {op : Byte} {f : Word → Instr} (hlength : instrLength op = 3)
    (hop : ∀ b1 b2, decodeBytes op b1 b2 = f (mkWord b2 b1)) (nn : Word) (rest : List Byte) :
    decode (op :: loByte nn :: hiByte nn :: rest) = .ok (f nn, rest) := by
  rw [decode_three hlength, hop, mkWord_eq, hiByte_append_loByte]

/-- Every whole instruction decodes from its encoding: the grids hold it at its opcode, with its operand bytes. -/
theorem decode_encode {i : Instr} (h : i.wellFormed = true) (rest : List Byte) :
    decode (encode i ++ rest) = .ok (i, rest) := by
  cases i
  case prefixCb => cases h
  case ldBcD16 nn | ldMemA16Sp nn | ldDeD16 nn | ldHlD16 nn | ldSpD16 nn | jpNzA16 nn | jpA16 nn | callNzA16 nn | jpZA16 nn |
      callZA16 nn | callA16 nn | jpNcA16 nn | callNcA16 nn | jpCA16 nn | callCA16 nn | ldMemA16A nn | ldAMemA16 nn =>
    exact decode_word rfl (fun _ _ => rfl) nn rest
  all_goals rfl

/-- A sequence shorter than the length its first byte fixes does not decode (30_encoding.md R82). -/
theorem decode_short {op : Byte} {rest : List Byte} (h : rest.length + 1 < instrLength op) :
    decode (op :: rest) = .error (.missingOperand op) := by
  rw [decode_cons]
  rcases instrLength_cases op with hl | hl | hl <;> rw [hl] at h ⊢
  · omega
  · match rest, h with
    | [], _ => rfl
  · match rest, h with
    | [], _ | [_], _ => rfl

/-- Any other sequence decodes by the first bytes, as many as that length says (30_encoding.md R82, R83). -/
theorem decode_complete {op : Byte} {rest : List Byte} (h : instrLength op ≤ rest.length + 1) :
    ∃ b1 b2 tail, rest = [b1, b2].take (instrLength op - 1) ++ tail ∧
      decode (op :: rest) = .ok (decodeBytes op b1 b2, tail) := by
  rcases instrLength_cases op with hl | hl | hl <;> rw [hl] at h ⊢
  · exact ⟨0#8, 0#8, rest, rfl, decode_one hl rest⟩
  · match rest, h with
    | b1 :: tail, _ => exact ⟨b1, 0#8, tail, rfl, decode_two hl b1 tail⟩
  · match rest, h with
    | b1 :: b2 :: tail, _ => exact ⟨b1, b2, tail, rfl, decode_three hl b1 b2 tail⟩

/-- The illegal entries of the primary grid stand at the illegal opcodes and nowhere else (30_encoding.md R81). -/
theorem decodeBytes_eq_illegal {op b1 b2 : Byte} {k : Fin 11} :
    decodeBytes op b1 b2 = Instr.illegal k ↔ illegalOpcodes.get k = op := by
  constructor
  · intro h
    have hbytes : encode (Instr.illegal k) = [illegalOpcodes.get k] := by fin_cases k <;> rfl
    exact (List.cons.inj (hbytes.symm.trans ((congrArg encode h).symm.trans (encode_decodeBytes op b1 b2)))).1
  · rintro rfl
    fin_cases k <;> rfl

end Sys2Proof

namespace Sys2Proof.Machine

theorem step_running {s : State} (h : s.run = .running) : step s = runningIteration s := by
  unfold step iteration; rw [h]

end Sys2Proof.Machine

open Sys2Proof Sys2Proof.Machine

/-- Settles O1, by the instructions: those with a word put its bytes together again, the others are read off the grids. -/
theorem decodeOfEncode : Obligations.DecodeOfEncode := fun _ rest h => decode_encode h rest

/-- Settles O2: a complete sequence decodes by its first bytes, and the cell they select encodes to them. -/
theorem encodeOfDecode : Obligations.EncodeOfDecode := by
  refine ⟨fun bytes rest i h => ?_, fun op rest => ⟨fun ⟨e, he⟩ => ?_, fun h => ⟨_, decode_short h⟩⟩, rfl⟩
  · match bytes with
    | [] => cases h
    | op :: operands =>
      rcases Nat.lt_or_ge (operands.length + 1) (instrLength op) with hshort | hcomplete
      · cases (decode_short hshort).symm.trans h
      · obtain ⟨b1, b2, tail, rfl, hdecode⟩ := decode_complete hcomplete
        cases hdecode.symm.trans h
        refine ⟨wellFormed_decodeBytes op b1 b2, fun hstop => ?_⟩
        rw [encode_decodeBytes, if_neg fun hop => hstop (congrArg some hop), List.cons_append]
  · by_contra hcomplete
    obtain ⟨b1, b2, tail, -, hdecode⟩ := decode_complete (Nat.le_of_not_lt hcomplete)
    cases hdecode.symm.trans he

/-- Settles O4: an illegal entry is known by its opcode, and its operation raises the fault and does nothing else. -/
theorem illegalOpcodesFault : Obligations.IllegalOpcodesFault := by
  refine ⟨fun op b1 b2 => ?_, fun op b1 b2 k s h => ?_⟩
  · simp only [decodeBytes_eq_illegal]
    exact (List.mem_iff_get (l := illegalOpcodes)).symm
  · rw [exec_illegal, decodeBytes_eq_illegal.1 h]; rfl

/-- Settles O3: each word is looked up in its grid. -/
theorem sampleWordsDecode : Obligations.SampleWordsDecode := by
  unfold Obligations.SampleWordsDecode
  decide

/-- Settles O46: with every fetch accepted, Execute() is the decoded instruction, and the iteration goes on from there. -/
theorem stepRunsDecodedInstruction : Obligations.StepRunsDecodedInstruction := by
  intro s i rest n hrun hdecode hfetch
  rw [step_running hrun]
  exact execute_decoded hdecode hfetch ▸ rfl
end

section
/-! PROOFS. Loads (40_loads.md R100 to R122): every load from memory is one read and then a register, every store of one byte
is one write. -/

namespace Sys2Proof

theorem decode_ldRR (dst r : Reg8) : decode [0b01#2 ++ dst.code ++ r.code] = .ok (Instr.ldRR dst r, []) := by
  cases dst <;> cases r <;> rfl

theorem decode_ldRD8 (dst : Reg8) (n : Byte) :
    decode [0b00#2 ++ dst.code ++ 0b110#3, n] = .ok (Instr.ldRD8 dst n, []) := by cases dst <;> rfl

theorem decode_ldRrD16 (rr : Reg16) (lo hi : Byte) :
    decode [0b00#2 ++ rr.code ++ 0b0001#4, lo, hi] = .ok (Instr.ldRrD16 rr (hi ++ lo), []) := by cases rr <;> rfl

theorem decode_ldRMemHl (dst : Reg8) : decode [0b01#2 ++ dst.code ++ 0b110#3] = .ok (Instr.ldRMemHl dst, []) := by
  cases dst <;> rfl

theorem decode_ldMemHlR (r : Reg8) : decode [0b01110#5 ++ r.code] = .ok (Instr.ldMemHlR r, []) := by cases r <;> rfl

theorem decode_ldAMemHlStep (up : Bool) :
    decode [if up then 0x2A#8 else 0x3A#8] = .ok (Instr.ldAMemHlStep up, []) := by cases up <;> rfl

theorem decode_ldMemHlStepA (up : Bool) :
    decode [if up then 0x22#8 else 0x32#8] = .ok (Instr.ldMemHlStepA up, []) := by cases up <;> rfl

end Sys2Proof

namespace Sys2Proof.Machine

/-- The high page is addressed by its low byte (20_memory.md R57). -/
theorem highPage_eq (n : Byte) : highPage n = 0xFF#8 ++ n := by
  refine BitVec.eq_of_toNat_eq ?_
  have h := n.isLt
  rw [BitVec.toNat_append, Nat.shiftLeft_eq, Nat.mul_comm, ← Nat.two_pow_add_eq_or_of_lt h, highPage, BitVec.toNat_add,
    BitVec.toNat_setWidth]
  change (0xFF00 + n.toNat % 2 ^ 16) % 2 ^ 16 = 2 ^ 8 * 0xFF + n.toNat
  omega

/-- The two directions HL moves in (40_loads.md R110 to R113). -/
theorem add_stepDelta (hl : Word) (up : Bool) :
    hl + (if up then 1#16 else -1#16) = if up then hl + 1 else hl - 1 := by
  cases up
  · exact (BitVec.sub_eq_add_neg hl 1).symm
  · rfl

/-- An instruction that is one read of `addr` and then a write of the register ends with both, or at the rejected read. -/
theorem exec_of_load {i : Instr} {s : State} {addr : Word} {r : Reg8} {n : Nat}
    (h : exec i s = handler (memRead addr >>= fun v => updateState (·.setR8 r v) >>= fun _ => pure n) s) :
    (s.Readable addr → exec i s = .next (((s.didRead addr).setR8 r (s.readValue addr)).returns n)) ∧
    (¬ s.Readable addr → exec i s = .next (s.busFault addr .read)) :=
  ⟨fun haccepted => h.trans (handler_memRead_ok _ haccepted),
    fun hrejected => h.trans (handler_memRead_rejected _ hrejected)⟩

/-- An instruction that is one write at `addr` ends with it, or at its rejection. -/
theorem exec_of_store {i : Instr} {s : State} {addr : Word} {v : Byte} {n : Nat}
    (h : exec i s = handler (memWrite addr v >>= fun _ => pure n) s) :
    (s.Writable addr → exec i s = .next ((s.didWrite addr v).returns n)) ∧
    (¬ s.Writable addr → exec i s = .next (s.busFault addr .write)) :=
  ⟨fun haccepted => h.trans (handler_memWrite_ok _ haccepted),
    fun hrejected => h.trans (handler_memWrite_rejected _ hrejected)⟩

/-- A double-byte write that is rejected at its first byte writes nothing, at its second the low byte (20_memory.md R52,
R59). -/
theorem memWrite16_rejected {addr v : Word} {s : State} (h : ¬ s.Writable addr) :
    memWrite16 addr v s = .error (.busError addr .write) s.rejected := op_bind_error (memWrite_rejected h)

theorem memWrite16_rejected_high {addr v : Word} {s : State} (hlo : s.Writable addr)
    (hhi : ¬ (s.didWrite addr (loByte v)).Writable (addr + 1)) :
    memWrite16 addr v s = .error (.busError (addr + 1) .write) (s.didWrite addr (loByte v)).rejected :=
  (op_bind_ok (memWrite_ok hlo)).trans (memWrite_rejected hhi)

end Sys2Proof.Machine

open Sys2Proof Sys2Proof.Machine

/-- Settles O20, by the six forms: each is one read at its address and then the register. -/
theorem loadsFromMemory : Obligations.LoadsFromMemory := by
  rintro s i addr r n bytes (⟨dst, rfl, rfl, rfl, rfl, rfl⟩ | ⟨rfl, rfl, rfl, rfl, rfl⟩ | ⟨rfl, rfl, rfl, rfl, rfl⟩ |
    ⟨lo, hi, rfl, rfl, rfl, rfl, rfl⟩ | ⟨a8, rfl, rfl, rfl, rfl, rfl⟩ | ⟨rfl, rfl, rfl, rfl, rfl⟩)
  · exact ⟨decode_ldRMemHl _, exec_of_load (exec_ldRMemHl _ s)⟩
  · exact ⟨rfl, exec_of_load rfl⟩
  · exact ⟨rfl, exec_of_load rfl⟩
  · exact ⟨rfl, exec_of_load rfl⟩
  · exact ⟨rfl, highPage_eq a8 ▸ exec_of_load rfl⟩
  · exact ⟨rfl, highPage_eq s.c ▸ exec_of_load rfl⟩

/-- Settles O21, by the seven forms: each is one write at its address. -/
theorem storesToMemory : Obligations.StoresToMemory := by
  rintro s i addr v n bytes (⟨r, rfl, rfl, rfl, rfl, rfl⟩ | ⟨d8, rfl, rfl, rfl, rfl, rfl⟩ | ⟨rfl, rfl, rfl, rfl, rfl⟩ |
    ⟨rfl, rfl, rfl, rfl, rfl⟩ | ⟨lo, hi, rfl, rfl, rfl, rfl, rfl⟩ | ⟨a8, rfl, rfl, rfl, rfl, rfl⟩ |
    ⟨rfl, rfl, rfl, rfl, rfl⟩)
  · exact ⟨decode_ldMemHlR r, exec_of_store (exec_ldMemHlR r s)⟩
  · exact ⟨rfl, exec_of_store rfl⟩
  · exact ⟨rfl, exec_of_store rfl⟩
  · exact ⟨rfl, exec_of_store rfl⟩
  · exact ⟨rfl, exec_of_store rfl⟩
  · exact ⟨rfl, highPage_eq a8 ▸ exec_of_store rfl⟩
  · exact ⟨rfl, highPage_eq s.c ▸ exec_of_store rfl⟩

/-- Settles O22: HL is moved after the access, from where the access left it. -/
theorem loadsAndStoresMovingHl : Obligations.LoadsAndStoresMovingHl := by
  intro s up hl next
  have moved : next = hl + (if up then 1#16 else -1#16) := (add_stepDelta hl up).symm
  rw [exec_ldAMemHlStep, exec_ldMemHlStepA, moved]
  exact ⟨decode_ldAMemHlStep up, decode_ldMemHlStepA up, handler_memRead_ok _, handler_memRead_rejected _,
    handler_memWrite_ok _, handler_memWrite_rejected _⟩

/-- Settles O19: each is one state update and its count. -/
theorem registerAndImmediateLoads : Obligations.RegisterAndImmediateLoads := fun dst r rr n lo hi s =>
  ⟨⟨decode_ldRR dst r, exec_ldRR dst r s⟩, ⟨decode_ldRD8 dst n, exec_ldRD8 dst n s⟩,
    ⟨decode_ldRrD16 rr lo hi, exec_ldRrD16 rr (hi ++ lo) s⟩, rfl, rfl⟩

/-- Settles O23: the two writes of the double-byte access, or the first that is rejected. -/
theorem storeStackPointer : Obligations.StoreStackPointer := fun _ _ _ =>
  ⟨rfl, fun hlo hhi => handler_bind_ok (memWrite16_ok hlo hhi),
    fun hlo => handler_error (op_bind_error (memWrite16_rejected hlo)),
    fun hlo hhi => handler_error (op_bind_error (memWrite16_rejected_high hlo hhi))⟩
end

section
/-! PROOFS. Increment and decrement (41_incdec.md R130 to R135): the kernel's step and half-carry in closed form, then one run
of the register form and one of the `(HL)` form for both directions. -/

namespace Sys2Proof

theorem decode_incR (r : Reg8) : decode [0b00#2 ++ r.code ++ 0b100#3] = .ok (Instr.incR r, []) := by cases r <;> rfl

theorem decode_decR (r : Reg8) : decode [0b00#2 ++ r.code ++ 0b101#3] = .ok (Instr.decR r, []) := by cases r <;> rfl

theorem decode_incRr (rr : Reg16) : decode [0b00#2 ++ rr.code ++ 0b0011#4] = .ok (Instr.incRr rr, []) := by
  cases rr <;> rfl

theorem decode_decRr (rr : Reg16) : decode [0b00#2 ++ rr.code ++ 0b1011#4] = .ok (Instr.decRr rr, []) := by
  cases rr <;> rfl

end Sys2Proof

namespace Sys2Proof.Machine

/-- A test of the low nibble, as the kernel's width-4 fold and as the rules' mask state it. -/
theorem lowNibble_eq_iff (v : Byte) {n : Nat} (hn : n < 16) : v &&& 0xF#8 = BitVec.ofNat 8 n ↔ v.toNat % 16 = n := by
  have masked : (v &&& 0xF#8).toNat = v.toNat % 16 := by
    rw [BitVec.toNat_and]; exact Nat.and_two_pow_sub_one_eq_mod v.toNat 4
  rw [← BitVec.toNat_inj, masked, BitVec.toNat_ofNat, Nat.mod_eq_of_lt (hn.trans (by decide : 16 < 2 ^ 8))]

/-- Adding one carries out of bit 3 exactly at a low nibble of all ones (R130). -/
theorem halfCarry_add_one (v : Byte) (s : State) :
    halfCarry .add 8 v.toNat [1] s = .ok (decide (v &&& 0xF#8 = 0xF#8)) s := by
  rw [halfCarry_even _ rfl, carryOccurs_add_one]
  refine congrArg (EStateM.Result.ok · s) (decide_eq_decide.2 ?_)
  rw [lowNibble_eq_iff v (by decide)]
  omega

/-- Taking one away borrows from bit 4 exactly at a low nibble of zero (R131). -/
theorem halfCarry_sub_one (v : Byte) (s : State) :
    halfCarry .sub 8 v.toNat [1] s = .ok (decide (v &&& 0xF#8 = 0#8)) s := by
  rw [halfCarry_even _ rfl, carryOccurs_sub_one]
  refine congrArg (EStateM.Result.ok · s) (decide_eq_decide.2 ?_)
  rw [lowNibble_eq_iff v (by decide)]
  omega

/-- The byte and the flags that a kernel operation gives with the operand 1, without the fold. -/
structure StepsByOne (op : KernelOp) (next : Byte → Byte) (flags : Flags → Byte → Flags) : Prop where
  byte : ∀ v, apply8 op v [1] = next v
  writesFlags : ∀ v s, incDecFlags op v (next v) s = .ok () { s with f := flags s.f v }

theorem stepsByOne_add : StepsByOne .add (· + 1) Expected.incFlags where
  byte v := apply8_add v 1
  writesFlags v s := op_bind_ok (halfCarry_add_one v s)

theorem stepsByOne_sub : StepsByOne .sub (· - 1) Expected.decFlags where
  byte v := apply8_sub v 1
  writesFlags v s := op_bind_ok (halfCarry_sub_one v s)

namespace StepsByOne

variable {op : KernelOp} {next : Byte → Byte} {flags : Flags → Byte → Flags} (k : StepsByOne op next flags)
include k

/-- The register form: the register, then the flags as they stood before it (R130, R131). -/
theorem handler_incDecR (r : Reg8) (s : State) : handler (incDecR op r) s =
    .next { s.setR8 r (next (s.getR8 r)) with f := flags s.f (s.getR8 r), cycles := some 1 } := by
  simp only [incDecR, handler_getState, handler_updateState, k.byte]
  rw [handler_bind_ok (k.writesFlags ..), State.setR8_f]
  rfl

/-- The `(HL)` form: read, write, then the flags, or the first call that is rejected (R132, R133, D28). -/
theorem handler_incDecMemHl (s : State) :
    (s.Readable s.hl → (s.didRead s.hl).Writable s.hl → handler (incDecMemHl op) s =
      .next { (s.didRead s.hl).didWrite s.hl (next (s.readValue s.hl)) with
        f := flags s.f (s.readValue s.hl), cycles := some 3 }) ∧
    (¬ s.Readable s.hl → handler (incDecMemHl op) s = .next (s.busFault s.hl .read)) ∧
    (s.Readable s.hl → ¬ (s.didRead s.hl).Writable s.hl → handler (incDecMemHl op) s =
      .next ((s.didRead s.hl).busFault s.hl .write)) := by
  simp only [incDecMemHl, handler_getState, k.byte]
  refine ⟨fun hread hwrite => ?_, handler_memRead_rejected _, fun hread hwrite => ?_⟩
  · rw [handler_memRead_ok _ hread, handler_memWrite_ok _ hwrite, handler_bind_ok (k.writesFlags ..)]
    rfl
  · rw [handler_memRead_ok _ hread, handler_memWrite_rejected _ hwrite]

end StepsByOne

end Sys2Proof.Machine

open Sys2Proof Sys2Proof.Machine

/-- Settles O24: each is the register form of one direction. -/
theorem incDecRegister : Obligations.IncDecRegister := fun s r =>
  ⟨decode_incR r, (exec_incR r s).trans (stepsByOne_add.handler_incDecR r s),
    decode_decR r, (exec_decR r s).trans (stepsByOne_sub.handler_incDecR r s)⟩

/-- Settles O25, by direction: each is the `(HL)` form with its kernel operation. -/
theorem incDecMemory : Obligations.IncDecMemory := by
  intro s up
  cases up with
  | false => exact ⟨rfl, stepsByOne_sub.handler_incDecMemHl s⟩
  | true => exact ⟨rfl, stepsByOne_add.handler_incDecMemHl s⟩

/-- Settles O26: one write of the pair, with the kernel's word sum or difference, and no flag. -/
theorem incDecPair : Obligations.IncDecPair := by
  intro s rr
  refine ⟨decode_incRr rr, ?_, decode_decRr rr, ?_⟩
  · rw [exec_incRr, incRr, incDecRr, handler_updateState, apply16_add]
    rfl
  · rw [exec_decRr, decRr, incDecRr, handler_updateState, apply16_sub]
    rfl
end

section
/-! PROOFS. 8-bit arithmetic and logic (42_alu8.md R140 to R164): what `A <- Alu(A, b)` does to A and the flags, said once
for the eight operations; each operand form is that after its operand is there. -/

namespace Sys2Proof

theorem decode_aluR (op : AluOp) (r : Reg8) : decode [0b10#2 ++ op.code ++ r.code] = .ok (Instr.aluR op r, []) := by
  cases op <;> cases r <;> rfl

theorem decode_aluMemHl (op : AluOp) : decode [0b10#2 ++ op.code ++ 0b110#3] = .ok (Instr.aluMemHl op, []) := by
  cases op <;> rfl

theorem decode_aluD8 (op : AluOp) (n : Byte) :
    decode [0b11#2 ++ op.code ++ 0b110#3, n] = .ok (Instr.aluD8 op n, []) := by cases op <;> rfl

end Sys2Proof

namespace Sys2Proof.Machine

/-- Zero is a right identity of a fold step, of every operation but And. -/
theorem applyStep_zero {op : KernelOp} (hop : op ≠ .and) {w acc : Nat} (h : acc < 2 ^ w) : applyStep op w acc 0 = acc := by
  cases op with
  | and => exact absurd rfl hop
  | add | sub | xor | or => simp [applyStep, Nat.mod_eq_of_lt h]

theorem carryStep_zero (op : KernelOp) {w acc : Nat} (h : acc < 2 ^ w) : carryStep op w acc 0 = false := by
  cases op with
  | add => exact decide_eq_false (Nat.not_le.2 h)
  | sub => exact decide_eq_false (Nat.not_lt_zero acc)
  | and | xor | or => rfl

/-- A carry-in of zero changes no result. -/
theorem apply_carryIn_false {op : KernelOp} (hop : op ≠ .and) (w left n : Nat) :
    apply op w left [n, carryIn false] = apply op w left [n] := by
  rw [apply_two, apply_one]
  exact (congrArg _ (Nat.zero_mod _)).trans (applyStep_zero hop (applyStep_lt ..))

/-- A carry-in of zero changes no carry. -/
theorem carryOccurs_carryIn_false (op : KernelOp) (w left n : Nat) :
    carryOccurs op w left [n, carryIn false] = carryOccurs op w left [n] := by
  simp only [carryOccurs, carryFold, carryIn, Bool.toNat_false, Nat.zero_mod, carryStep_zero _ (applyStep_lt ..),
    Bool.or_false]

/-- The arithmetic gives the kernel's result, and all four flags from it and the kernel's carries (R140). -/
theorem aluArith_run {op : KernelOp} {a : Byte} {rights : List Nat} {half : Bool} {s : State}
    (h : halfCarry op 8 a.toNat rights s = .ok half s) :
    aluArith op a rights s = .ok (apply8 op a rights)
      { s with f := { z := decide (apply8 op a rights = 0#8), n := decide (op = .sub), h := half
                      c := carryOccurs op 8 a.toNat rights } } :=
  op_bind_ok h

/-- The arithmetic without a carry-in is the one with a carry-in of zero (R140). -/
theorem aluArith_carryIn_false {op : KernelOp} (hop : op ≠ .and) (a : Byte) (n : Nat) (s : State) :
    aluArith op a [n, carryIn false] s = aluArith op a [n] s := by
  rw [aluArith_run (halfCarry_even op rfl ..), aluArith_run (halfCarry_even op rfl ..), apply8, apply8,
    apply_carryIn_false hop, carryOccurs_carryIn_false, carryOccurs_carryIn_false]

/-- The kernel's sum with a carry-in has the result and flags of ADC (R140, R15). -/
theorem aluArith_add (a b : Byte) (c : Bool) (s : State) : aluArith .add a [b.toNat, carryIn c] s =
    .ok (Expected.alu .adc a b c).1 { s with f := (Expected.alu .adc a b c).2 } := by
  obtain ⟨hsum, hcarry, hhalf, -⟩ := kernelClosedForms a b (carryIn c) s c.toNat_le
  have hres : apply8 .add a [b.toNat, carryIn c] = BitVec.ofNat 8 (a.toNat + b.toNat + carryIn c) := by
    rw [apply8, hsum]
    exact BitVec.eq_of_toNat_eq (by simp)
  rw [aluArith_run hhalf, hres, hcarry]
  rfl

/-- The kernel's difference with a borrow-in has the result and flags of SBC (R140, R15). -/
theorem aluArith_sub (a b : Byte) (c : Bool) (s : State) : aluArith .sub a [b.toNat, carryIn c] s =
    .ok (Expected.alu .sbc a b c).1 { s with f := (Expected.alu .sbc a b c).2 } := by
  have hc : carryIn c ≤ 1 := c.toNat_le
  obtain ⟨-, -, -, hdiff, hborrow, hhalf⟩ := kernelClosedForms a b (carryIn c) s hc
  have hres : apply8 .sub a [b.toNat, carryIn c] = BitVec.ofNat 8 (a.toNat + 256 - b.toNat - carryIn c) := by
    refine BitVec.eq_of_toNat_eq ?_
    rw [apply8, BitVec.toNat_ofNat, BitVec.toNat_ofNat]
    have hb := b.isLt
    omega
  have borrows (x y : Nat) : decide ((x : Int) - y - carryIn c < 0) = decide (x < y + carryIn c) :=
    decide_eq_decide.2 (by omega)
  rw [aluArith_run hhalf, hres, hborrow, borrows, borrows]
  rfl

/-- The logic gives the kernel's result, with N and C clear and H fixed (R140). -/
theorem aluLogic_run {op : KernelOp} {a b r : Byte} (h : apply8 op a [b.toNat] = r) (half : Bool) (s : State) :
    aluLogic op half a b s =
      .ok r { s with f := { z := decide (r = 0#8), n := false, h := half, c := false } } := by
  rw [← h]; rfl

/-- `A <- Alu(A, b)` after its result and flags are there: CP leaves A (R140). -/
theorem aluAccumulate_of_aluResult {op : AluOp} {b res : Byte} {f : Flags} {s : State}
    (h : aluResult op s.a b s = .ok res { s with f := f }) :
    aluAccumulate op b s = .ok () { s with a := if op = .cp then s.a else res, f := f } :=
  (op_bind_ok h).trans (by cases op <;> rfl)

/-- `A <- Alu(A, b)`: A and all four flags in closed form, and nothing else (R140). -/
theorem aluAccumulate_run (op : AluOp) (b : Byte) (s : State) : aluAccumulate op b s =
    .ok () { s with a := (Expected.alu op s.a b s.f.c).1, f := (Expected.alu op s.a b s.f.c).2 } := by
  have sum := (aluArith_carryIn_false (by decide) s.a b.toNat s).symm.trans (aluArith_add s.a b false s)
  have difference := (aluArith_carryIn_false (by decide) s.a b.toNat s).symm.trans (aluArith_sub s.a b false s)
  cases op with
  | add => exact aluAccumulate_of_aluResult sum
  | adc => exact aluAccumulate_of_aluResult (aluArith_add s.a b s.f.c s)
  | sub => exact aluAccumulate_of_aluResult difference
  | sbc => exact aluAccumulate_of_aluResult (aluArith_sub s.a b s.f.c s)
  | and => exact aluAccumulate_of_aluResult (aluLogic_run (apply8_and s.a b) true s)
  | xor => exact aluAccumulate_of_aluResult (aluLogic_run (apply8_xor s.a b) false s)
  | or => exact aluAccumulate_of_aluResult (aluLogic_run (apply8_or s.a b) false s)
  | cp => exact aluAccumulate_of_aluResult difference

/-- A form whose operand is there is `A <- Alu(A, b)` and its count. -/
theorem handler_aluAccumulate (op : AluOp) (b : Byte) (n : Nat) (s : State) :
    handler (aluAccumulate op b >>= fun _ => pure n) s = .next { s with
      a := (Expected.alu op s.a b s.f.c).1, f := (Expected.alu op s.a b s.f.c).2, cycles := some n } := by
  rw [handler_bind_ok (aluAccumulate_run op b s)]
  rfl

end Sys2Proof.Machine

open Sys2Proof Sys2Proof.Machine

/-- Settles O27: the operand is the register as it was. -/
theorem aluRegisterForms : Obligations.AluRegisterForms := fun s op r =>
  ⟨decode_aluR op r, (exec_aluR op r s).trans (handler_aluAccumulate op (s.getR8 r) 1 s)⟩

/-- Settles O28: the operand is the byte read at HL, or the read is rejected and the instruction ends there. -/
theorem aluMemoryForms : Obligations.AluMemoryForms := by
  intro s op
  rw [exec_aluMemHl, aluMemHl, handler_getState]
  exact ⟨decode_aluMemHl op,
    fun hread => (handler_memRead_ok _ hread).trans (handler_aluAccumulate op _ 2 (s.didRead s.hl)),
    handler_memRead_rejected _⟩

/-- Settles O29: the operand is the immediate byte. -/
theorem aluImmediateForms : Obligations.AluImmediateForms := fun s op n =>
  ⟨decode_aluD8 op n, (exec_aluD8 op n s).trans (handler_aluAccumulate op n 2 s)⟩
end

section
/-! PROOFS. 16-bit arithmetic (43_alu16.md R170 to R172): the kernel's word sum and its carries at the widths the rules name,
then what each of the three operations leaves. -/

namespace Sys2Proof

theorem decode_addHlRr (rr : Reg16) : decode [0b00#2 ++ rr.code ++ 0b1001#4] = .ok (Instr.addHlRr rr, []) := by
  cases rr <;> rfl

end Sys2Proof

namespace Sys2Proof.Machine

/-- `Apply(Add, 16, v, w)` on two words is their sum. -/
theorem apply16_add_word (v w : Word) : apply16 .add v [w.toNat] = v + w := by
  rw [apply16_add, BitVec.ofNat_toNat, BitVec.setWidth_eq]

/-- One addition carries exactly when the masked sum exceeds the largest value of the width (00_scope.md R11). -/
theorem carryOccurs_add_one_gt (w left r : Nat) :
    carryOccurs .add w left [r] = decide (left % 2 ^ w + r % 2 ^ w > 2 ^ w - 1) := by
  rw [carryOccurs_add_one]
  have := Nat.two_pow_pos w
  exact decide_eq_decide.2 (by omega)

/-- The carry out of bit 15 is that of the exact sum of the two words (R170). -/
theorem carryOccurs_add_word (v w : Word) :
    carryOccurs .add 16 v.toNat [w.toNat] = decide (v.toNat + w.toNat > 0xFFFF) := by
  rw [carryOccurs_add_one_gt, Nat.mod_eq_of_lt v.isLt, Nat.mod_eq_of_lt w.isLt]
  rfl

/-- `ADD HL,rr`: HL and the flags of the two words as they were, `ADD HL,HL` included (R170). -/
theorem handler_addHlRr (rr : Reg16) (s : State) : handler (addHlRr rr) s =
    .next { s.setHl (s.hl + s.getR16 rr) with
      f := { z := s.f.z, n := false
             h := decide (s.hl.toNat % 0x1000 + (s.getR16 rr).toNat % 0x1000 > 0xFFF)
             c := decide (s.hl.toNat + (s.getR16 rr).toNat > 0xFFFF) }
      cycles := some 2 } := by
  rw [addHlRr, handler_getState, handler_updateState, apply16_add_word, carryOccurs_add_one_gt, carryOccurs_add_word]
  rfl

/-- `SP + e8` is the word sum with the displacement sign-extended (R171, R172). -/
theorem spPlus_eq (sp : Word) (e : Byte) : spPlus sp e = sp + e.signExtend 16 := apply16_add_word sp (sext16 e)

/-- Its flags are those of the unsigned sum of SP's low byte and the displacement byte (R171, R172). -/
theorem spPlusFlags_eq (sp : Word) (e : Byte) : spPlusFlags sp e = Expected.spFlags sp e := by
  rw [spPlusFlags, carryOccurs_add_one_gt, carryOccurs_add_one_gt, Nat.mod_eq_of_lt (b := 2 ^ 8) e.isLt]
  rfl

theorem handler_addSpE8 (e : Byte) (s : State) : handler (addSpE8 e) s =
    .next { s with sp := s.sp + e.signExtend 16, f := Expected.spFlags s.sp e, cycles := some 4 } := by
  rw [addSpE8, handler_getState, handler_updateState, spPlus_eq, spPlusFlags_eq]
  rfl

theorem handler_ldHlSpE8 (e : Byte) (s : State) : handler (ldHlSpE8 e) s =
    .next { s.setHl (s.sp + e.signExtend 16) with f := Expected.spFlags s.sp e, cycles := some 3 } := by
  rw [ldHlSpE8, handler_getState, handler_updateState, spPlus_eq, spPlusFlags_eq]
  rfl

end Sys2Proof.Machine

open Sys2Proof Sys2Proof.Machine

/-- Settles O30: each is one update of HL or SP, the flags from the operands as they were, and its count. -/
theorem sixteenBitArithmetic : Obligations.SixteenBitArithmetic := fun s rr e =>
  ⟨⟨decode_addHlRr rr, (exec_addHlRr rr s).trans (handler_addHlRr rr s)⟩,
    rfl, handler_addSpE8 e s, rfl, handler_ldHlSpE8 e s⟩
end

section
/-! PROOFS. Rotates and shifts (44_rotate_shift.md R180 to R200): a shift by one with a bit put in is a concatenation of bit
fields, so each of the eight results is the one R184 names; then one run each of the accumulator, register and `(HL)` forms. -/

namespace Sys2Proof

theorem decode_rotR (op : RotOp) (r : Reg8) :
    decode [0xCB#8, 0b00#2 ++ op.code ++ r.code] = .ok (Instr.rotR op r, []) := by
  cases op <;> cases r <;> rfl

theorem decode_rotMemHl (op : RotOp) :
    decode [0xCB#8, 0b00#2 ++ op.code ++ 0b110#3] = .ok (Instr.rotMemHl op, []) := by cases op <;> rfl

end Sys2Proof

namespace Sys2Proof.Machine

theorem bitMask_zero (b : Bool) : bitMask 0 b = 0#7 ++ BitVec.ofBool b := by cases b <;> rfl

theorem bitMask_seven (b : Bool) : bitMask 7 b = BitVec.ofBool b ++ 0#7 := by cases b <;> rfl

@[simp] theorem bitMask_false (i : Fin 8) : bitMask i false = 0#8 := rfl

/-- The mask of bit 7 keeps the sign bit alone (R184, SRA). -/
theorem and_signBit (v : Byte) : v &&& 0x80#8 = bitMask 7 (lastBit v) := BitVec.and_twoPow v 7

/-- One bit of a byte is its field of width one. -/
theorem ofBool_getBit (v : Byte) (i : Fin 8) : BitVec.ofBool (getBit v i) = v.extractLsb' i 1 := by
  refine BitVec.eq_of_getLsbD_eq fun j hj => ?_
  obtain rfl : j = 0 := by omega
  simp [getBit]

theorem ofBool_lastBit (v : Byte) : BitVec.ofBool (lastBit v) = v.extractLsb' 7 1 := ofBool_getBit v 7

theorem ofBool_firstBit (v : Byte) : BitVec.ofBool (firstBit v) = v.extractLsb' 0 1 := ofBool_getBit v 0

/-- A left shift by one with `b` put into bit 0: bits 6 to 0, then `b`. -/
theorem shiftLeft_one_or_bitMask (v : Byte) (b : Bool) :
    v <<< 1 ||| bitMask 0 b = v.extractLsb' 0 7 ++ BitVec.ofBool b := by
  rw [BitVec.shiftLeft_eq_concat_of_lt (by decide), bitMask_zero, BitVec.cast_eq, BitVec.or_append]
  simp

/-- A right shift by one with `b` put into bit 7: `b`, then bits 7 to 1. -/
theorem shiftRight_one_or_bitMask (v : Byte) (b : Bool) :
    v >>> 1 ||| bitMask 7 b = BitVec.ofBool b ++ v.extractLsb' 1 7 := by
  rw [BitVec.ushiftRight_eq_extractLsb'_of_lt (by decide), bitMask_seven, BitVec.cast_eq, BitVec.or_append]
  simp

theorem shiftLeft_one (v : Byte) : v <<< 1 = v.extractLsb' 0 7 ++ 0#1 := by
  simpa using shiftLeft_one_or_bitMask v false

theorem shiftRight_one (v : Byte) : v >>> 1 = 0#1 ++ v.extractLsb' 1 7 := by
  simpa using shiftRight_one_or_bitMask v false

/-- The nibbles exchanged (R184, SWAP). -/
theorem swapNibbles (v : Byte) : (v &&& 0x0F#8) <<< 4 ||| v >>> 4 = v.extractLsb' 0 4 ++ v.extractLsb' 4 4 := by
  rw [BitVec.shiftLeft_eq_concat_of_lt (by decide), BitVec.ushiftRight_eq_extractLsb'_of_lt (by decide),
    BitVec.cast_eq, BitVec.cast_eq, BitVec.or_append, BitVec.extractLsb'_and, BitVec.or_zero, BitVec.zero_or]
  exact congrArg (· ++ v.extractLsb' 4 4) BitVec.and_allOnes

/-- The result and the carry of each operation are the bit fields R184 names. -/
theorem rotResult_eq (op : RotOp) (old : Bool) (v : Byte) : rotResult op old v = Expected.rot op old v := by
  refine Prod.ext ?_ (by cases op <;> rfl)
  cases op <;> simp only [rotResult, Expected.rot]
  case rlc => rw [shiftLeft_one_or_bitMask, ofBool_lastBit]
  case rrc => rw [shiftRight_one_or_bitMask, ofBool_firstBit]
  case rl => exact shiftLeft_one_or_bitMask v old
  case rr => exact shiftRight_one_or_bitMask v old
  case sla => exact shiftLeft_one v
  case sra => rw [and_signBit, shiftRight_one_or_bitMask, ofBool_lastBit]
  case swap => exact swapNibbles v
  case srl => exact shiftRight_one v

/-- The 1 of PREFIX CB is added to a CB handler's count after all that the handler does (48_misc.md R259). -/
theorem prefixed_bind {α : Type} (x : Op α) (f : α → Op Nat) :
    prefixed (x >>= f) = x >>= fun v => prefixed (f v) :=
  bind_assoc x f _

/-- `A_ROT_Z` decides Z of the accumulator rotates (R180 to R183, D10). -/
theorem aRotFlags_eq (mode : ARotZ) (old : Flags) (c : Bool) :
    aRotFlags mode old c = { z := if mode = .cleared then false else old.z, n := false, h := false, c := c } := by
  cases mode <;> rfl

theorem handler_rotA (op : RotOp) (s : State) : handler (rotA op) s = .next { s with
    a := (Expected.rot op s.f.c s.a).1
    f := { z := if s.cfg.aRotZ = .cleared then false else s.f.z, n := false, h := false
           c := (Expected.rot op s.f.c s.a).2 }
    cycles := some 1 } := by
  rw [rotA, handler_getState, handler_updateState, rotResult_eq, aRotFlags_eq]
  rfl

theorem handler_prefixed_rotR (op : RotOp) (r : Reg8) (s : State) : handler (prefixed (rotR op r)) s =
    .next { s.setR8 r (Expected.rot op s.f.c (s.getR8 r)).1 with
      f := Expected.rotFlags (Expected.rot op s.f.c (s.getR8 r)), cycles := some 2 } := by
  rw [rotR, prefixed_bind, handler_getState, prefixed_bind, handler_updateState, rotResult_eq]
  rfl

/-- The `(HL)` form: read, write, then the flags, or the first call that is rejected (R186, D28). -/
theorem handler_prefixed_rotMemHl (op : RotOp) (s : State) :
    let res := Expected.rot op s.f.c (s.readValue s.hl)
    (s.Readable s.hl → (s.didRead s.hl).Writable s.hl → handler (prefixed (rotMemHl op)) s =
      .next { (s.didRead s.hl).didWrite s.hl res.1 with f := Expected.rotFlags res, cycles := some 4 }) ∧
    (¬ s.Readable s.hl → handler (prefixed (rotMemHl op)) s = .next (s.busFault s.hl .read)) ∧
    (s.Readable s.hl → ¬ (s.didRead s.hl).Writable s.hl → handler (prefixed (rotMemHl op)) s =
      .next ((s.didRead s.hl).busFault s.hl .write)) := by
  simp only [rotMemHl, prefixed_bind, handler_getState, rotResult_eq]
  refine ⟨fun hread hwrite => ?_, handler_memRead_rejected _, fun hread hwrite => ?_⟩
  · rw [handler_memRead_ok _ hread, handler_memWrite_ok _ hwrite]
    rfl
  · rw [handler_memRead_ok _ hread, handler_memWrite_rejected _ hwrite]

end Sys2Proof.Machine

open Sys2Proof Sys2Proof.Machine

/-- Settles O31, by the four rows: each is the rotate of A with its bits, and Z by `A_ROT_Z`. -/
theorem accumulatorRotates : Obligations.AccumulatorRotates := by
  intro s op i code hrow
  simp only [List.mem_cons, Prod.mk.injEq, List.not_mem_nil, or_false] at hrow
  rcases hrow with ⟨rfl, rfl, rfl⟩ | ⟨rfl, rfl, rfl⟩ | ⟨rfl, rfl, rfl⟩ | ⟨rfl, rfl, rfl⟩
  all_goals exact ⟨rfl, handler_rotA _ s⟩

/-- Settles O32: the operand and the carry are read before the register and the flags are written. -/
theorem rotateShiftRegister : Obligations.RotateShiftRegister := fun s op r =>
  ⟨decode_rotR op r, (exec_rotR op r s).trans (handler_prefixed_rotR op r s)⟩

/-- Settles O33: the `(HL)` form, its two calls accepted or one of them rejected. -/
theorem rotateShiftMemory : Obligations.RotateShiftMemory := by
  intro s op
  rw [exec_rotMemHl]
  exact ⟨decode_rotMemHl op, handler_prefixed_rotMemHl op s⟩
end

section
/-! PROOFS. Bit test, reset and set (45_bit.md R210 to R215): RES and SET are one operation that puts a bit, so the register
form and the `(HL)` form are each run once for both. -/

namespace Sys2Proof

theorem decode_bitR (i : Fin 8) (r : Reg8) :
    decode [0xCB#8, 0b01#2 ++ BitVec.ofFin (w := 3) i ++ r.code] = .ok (Instr.bitR i r, []) := by
  cases r <;> fin_cases i <;> rfl

theorem decode_bitMemHl (i : Fin 8) :
    decode [0xCB#8, 0b01#2 ++ BitVec.ofFin (w := 3) i ++ 0b110#3] = .ok (Instr.bitMemHl i, []) := by
  fin_cases i <;> rfl

theorem decode_resR_setR (i : Fin 8) (r : Reg8) (set : Bool) :
    decode [0xCB#8, (if set then 0b11#2 else 0b10#2) ++ BitVec.ofFin (w := 3) i ++ r.code] =
      .ok (if set then Instr.setR i r else Instr.resR i r, []) := by
  cases set <;> cases r <;> fin_cases i <;> rfl

theorem decode_resMemHl_setMemHl (i : Fin 8) (set : Bool) :
    decode [0xCB#8, (if set then 0b11#2 else 0b10#2) ++ BitVec.ofFin (w := 3) i ++ 0b110#3] =
      .ok (if set then Instr.setMemHl i else Instr.resMemHl i, []) := by
  cases set <;> fin_cases i <;> rfl

end Sys2Proof

namespace Sys2Proof.Machine

theorem exec_resR_setR (i : Fin 8) (r : Reg8) (set : Bool) (s : State) :
    exec (if set then Instr.setR i r else Instr.resR i r) s = handler (prefixed (putBitR i set r)) s := by
  cases set
  · exact exec_resR i r s
  · exact exec_setR i r s

theorem exec_resMemHl_setMemHl (i : Fin 8) (set : Bool) (s : State) :
    exec (if set then Instr.setMemHl i else Instr.resMemHl i) s = handler (prefixed (putBitMemHl i set)) s := by
  cases set
  · exact exec_resMemHl i s
  · exact exec_setMemHl i s

theorem and_not_or_self (v m : Byte) : v &&& ~~~m ||| m = v ||| m := by
  ext j
  simp [Bool.or_and_distrib_right]

/-- Putting a bit is one mask: where the bit is set, clearing it first makes no difference (00_scope.md R14). -/
theorem setBit_eq (v : Byte) (i : Fin 8) (b : Bool) :
    setBit v i b = if b then v ||| (1#8 <<< i.val) else v &&& ~~~(1#8 <<< i.val) := by
  cases b
  · exact BitVec.or_zero
  · exact and_not_or_self v _

/-- The `(HL)` form of BIT: one read and then the flags, or the read is rejected (R211). -/
theorem handler_prefixed_bitMemHl (i : Fin 8) (s : State) :
    (s.Readable s.hl → handler (prefixed (bitMemHl i)) s =
      .next { s.didRead s.hl with f := bitTestFlags s.f (s.readValue s.hl) i, cycles := some 3 }) ∧
    (¬ s.Readable s.hl → handler (prefixed (bitMemHl i)) s = .next (s.busFault s.hl .read)) := by
  simp only [bitMemHl, prefixed_bind, handler_getState]
  exact ⟨handler_memRead_ok _, handler_memRead_rejected _⟩

theorem handler_prefixed_putBitR (i : Fin 8) (b : Bool) (r : Reg8) (s : State) :
    handler (prefixed (putBitR i b r)) s = .next ((s.setR8 r (setBit (s.getR8 r) i b)).returns 2) := by
  rw [putBitR, prefixed_bind, handler_updateState]
  rfl

/-- The `(HL)` form of RES and SET: read, then write whatever the bit was, or the first call that is rejected (R213, R215,
D28). -/
theorem handler_prefixed_putBitMemHl (i : Fin 8) (b : Bool) (s : State) :
    (s.Readable s.hl → (s.didRead s.hl).Writable s.hl → handler (prefixed (putBitMemHl i b)) s =
      .next (((s.didRead s.hl).didWrite s.hl (setBit (s.readValue s.hl) i b)).returns 4)) ∧
    (¬ s.Readable s.hl → handler (prefixed (putBitMemHl i b)) s = .next (s.busFault s.hl .read)) ∧
    (s.Readable s.hl → ¬ (s.didRead s.hl).Writable s.hl → handler (prefixed (putBitMemHl i b)) s =
      .next ((s.didRead s.hl).busFault s.hl .write)) := by
  simp only [putBitMemHl, prefixed_bind, handler_getState]
  exact ⟨fun hread hwrite => (handler_memRead_ok _ hread).trans (handler_memWrite_ok _ hwrite), handler_memRead_rejected _,
    fun hread hwrite => (handler_memRead_ok _ hread).trans (handler_memWrite_rejected _ hwrite)⟩

end Sys2Proof.Machine

open Sys2Proof Sys2Proof.Machine

/-- Settles O34: the register form is one update of the flags, the `(HL)` form one read before it. -/
theorem bitTest : Obligations.BitTest := fun s b r =>
  ⟨decode_bitR b r, exec_bitR b r s, decode_bitMemHl b, exec_bitMemHl b s ▸ handler_prefixed_bitMemHl b s⟩

/-- Settles O35: RES and SET put one bit, and that is one mask; the write follows every accepted read. -/
theorem bitResetAndSet : Obligations.BitResetAndSet := by
  intro s b r set
  simp only [exec_resR_setR, exec_resMemHl_setMemHl, ← setBit_eq]
  exact ⟨decode_resR_setR b r set, handler_prefixed_putBitR b set r s, decode_resMemHl_setMemHl b set,
    handler_prefixed_putBitMemHl b set s⟩
end

section
/-! PROOFS. Control transfer (46_control.md R220 to R231): a conditional form is its transfer or nothing, a call is a push and a
jump, a return is a pop and one update of the state, so each is run once for all the instructions that use it. -/

namespace Sys2Proof

theorem decode_jpCcA16 (cc : Cond) (lo hi : Byte) :
    decode [0b110#3 ++ cc.code ++ 0b010#3, lo, hi] = .ok (Instr.jpCcA16 cc (hi ++ lo), []) := by cases cc <;> rfl

theorem decode_jrCcE8 (cc : Cond) (e : Byte) :
    decode [0b001#3 ++ cc.code ++ 0b000#3, e] = .ok (Instr.jrCcE8 cc e, []) := by cases cc <;> rfl

theorem decode_callCcA16 (cc : Cond) (lo hi : Byte) :
    decode [0b110#3 ++ cc.code ++ 0b100#3, lo, hi] = .ok (Instr.callCcA16 cc (hi ++ lo), []) := by cases cc <;> rfl

theorem decode_rst (y : Fin 8) : decode [0b11#2 ++ BitVec.ofFin (w := 3) y ++ 0b111#3] = .ok (Instr.rst y, []) := by
  fin_cases y <;> rfl

theorem decode_retCc (cc : Cond) : decode [0b110#3 ++ cc.code ++ 0b000#3] = .ok (Instr.retCc cc, []) := by
  cases cc <;> rfl

end Sys2Proof

namespace Sys2Proof.Machine

/-! The stack operations as the first step of a handler. -/

theorem handler_push16_ok {v : Word} {s : State} (f : Unit → Op Nat) (h : s.CanPush v) :
    handler (push16 v >>= f) s = handler (f ()) (s.pushed v) := handler_bind_ok (push16_ok h)

theorem handler_push16_rejected {v : Word} {s : State} (f : Unit → Op Nat) (h : ¬ s.CanPush v) :
    handler (push16 v >>= f) s = .next (s.pushFault v) := by
  rcases push16_cases v s with ⟨n, -⟩ | ⟨-, fault, t, run, settled⟩
  · exact absurd n h
  · rw [handler_error (op_bind_error run), settled]

theorem handler_pop16_ok {s : State} (f : Word → Op Nat) (h : s.CanPop) :
    handler (pop16 >>= f) s = handler (f s.topWord) s.popped := handler_bind_ok (pop16_ok h)

theorem handler_pop16_rejected {s : State} (f : Word → Op Nat) (h : ¬ s.CanPop) :
    handler (pop16 >>= f) s = .next s.popFault := by
  rcases pop16_cases s with ⟨n, -⟩ | ⟨-, fault, t, run, settled⟩
  · exact absurd n h
  · rw [handler_error (op_bind_error run), settled]

/-! The shared operations of control transfer. -/

/-- Taken, a conditional form is the transfer with the larger count (R220). -/
theorem handler_conditional_taken {cc : Cond} {s : State} (h : s.f.holds cc = true) (transfer : Op Unit)
    (taken notTaken : Nat) :
    handler (conditional cc transfer taken notTaken) s = handler (transfer >>= fun _ => pure taken) s := by
  rw [conditional, handler_getState, if_pos h]

/-- Not taken, it is the smaller count and nothing else (R220). -/
theorem handler_conditional_notTaken {cc : Cond} {s : State} (h : s.f.holds cc = false) (transfer : Op Unit)
    (taken notTaken : Nat) :
    handler (conditional cc transfer taken notTaken) s = .next { s with cycles := some notTaken } := by
  rw [conditional, handler_getState, if_neg (Bool.eq_false_iff.1 h)]
  rfl

/-- A conditional transfer that makes no bus call is decided by the condition alone. -/
theorem handler_conditional_update (cc : Cond) (g : State → State) (taken notTaken : Nat) (s : State) :
    handler (conditional cc (updateState g) taken notTaken) s =
      .next (if s.f.holds cc then (g s).returns taken else { s with cycles := some notTaken }) := by
  cases h : s.f.holds cc
  · exact handler_conditional_notTaken h _ _ _
  · exact handler_conditional_taken h _ _ _

theorem handler_callTo (target : Word) (n : Nat) (s : State) : handler (callTo target >>= fun _ => pure n) s =
    handler (push16 s.pc >>= fun _ => updateState (fun t => { t with pc := target }) >>= fun _ => pure n) s := by
  rw [callTo, bind_assoc, handler_getState, bind_assoc]
  rfl

theorem handler_callTo_ok {s : State} (target : Word) (n : Nat) (h : s.CanPush s.pc) :
    handler (callTo target >>= fun _ => pure n) s = .next { s.pushed s.pc with pc := target, cycles := some n } :=
  (handler_callTo target n s).trans (handler_push16_ok _ h)

theorem handler_callTo_rejected {s : State} (target : Word) (n : Nat) (h : ¬ s.CanPush s.pc) :
    handler (callTo target >>= fun _ => pure n) s = .next (s.pushFault s.pc) :=
  (handler_callTo target n s).trans (handler_push16_rejected _ h)

/-- RET and RETI differ in the update after the pop alone (R228, R230). -/
theorem handler_pop16_update_ok {s : State} (g : Word → State → State) (n : Nat) (h : s.CanPop) :
    handler ((pop16 >>= fun target => updateState (g target)) >>= fun _ => pure n) s =
      .next ((g s.topWord s.popped).returns n) := by
  rw [bind_assoc, handler_pop16_ok _ h]
  rfl

theorem handler_pop16_update_rejected {s : State} (g : Word → State → State) (n : Nat) (h : ¬ s.CanPop) :
    handler ((pop16 >>= fun target => updateState (g target)) >>= fun _ => pure n) s = .next s.popFault := by
  rw [bind_assoc, handler_pop16_rejected _ h]

end Sys2Proof.Machine

open Sys2Proof Sys2Proof.Machine

/-- Settles O36: a jump is one update of PC, and a condition chooses between it and nothing. -/
theorem jumps : Obligations.Jumps := fun s cc lo hi e =>
  ⟨rfl, rfl, rfl, rfl, rfl, rfl, decode_jpCcA16 cc lo hi,
    (exec_jpCcA16 cc (hi ++ lo) s).trans (handler_conditional_update cc _ 4 3 s), decode_jrCcE8 cc e,
    (exec_jrCcE8 cc e s).trans (handler_conditional_update cc _ 3 2 s)⟩

/-- Settles O37: all three are the one call, CALL cc if its condition holds, and the call is its push and then PC. -/
theorem callsAndRestarts : Obligations.CallsAndRestarts := by
  intro s cc lo hi y addr taken
  have decided : taken = s.f.holds cc := rfl
  rw [exec_callCcA16, exec_rst, decided]
  exact ⟨rfl, decode_callCcA16 cc lo hi, decode_rst y,
    fun accepted => ⟨handler_callTo_ok addr 6 accepted, handler_callTo_ok (rstTarget y) 4 accepted⟩,
    fun rejected => ⟨handler_callTo_rejected addr 6 rejected, handler_callTo_rejected (rstTarget y) 4 rejected⟩,
    fun holds accepted => (handler_conditional_taken holds _ 6 3).trans (handler_callTo_ok addr 6 accepted),
    fun holds rejected => (handler_conditional_taken holds _ 6 3).trans (handler_callTo_rejected addr 6 rejected),
    fun fails => handler_conditional_notTaken fails _ 6 3⟩

/-- Settles O38: all three are the one pop and then PC, RETI's with IME, RET cc's if its condition holds. -/
theorem returns : Obligations.Returns := by
  intro s cc taken
  have decided : taken = s.f.holds cc := rfl
  rw [exec_retCc, decided]
  exact ⟨rfl, rfl, decode_retCc cc,
    fun accepted => ⟨handler_pop16_update_ok _ 4 accepted, handler_pop16_update_ok _ 4 accepted⟩,
    fun rejected => ⟨handler_pop16_update_rejected _ 4 rejected, handler_pop16_update_rejected _ 4 rejected⟩,
    fun holds accepted => (handler_conditional_taken holds _ 5 2).trans (handler_pop16_update_ok _ 5 accepted),
    fun holds rejected => (handler_conditional_taken holds _ 5 2).trans (handler_pop16_update_rejected _ 5 rejected),
    fun fails => handler_conditional_notTaken fails _ 5 2⟩
end

section
/-! PROOFS. The stack instructions (47_stack.md R240 to R242): PUSH is one push, POP is one pop and then the pair. -/

namespace Sys2Proof

theorem decode_pushRr (rr : Reg16S) : decode [0b11#2 ++ rr.code ++ 0b0101#4] = .ok (Instr.pushRr rr, []) := by
  cases rr <;> rfl

theorem decode_popRr (rr : Reg16S) : decode [0b11#2 ++ rr.code ++ 0b0001#4] = .ok (Instr.popRr rr, []) := by
  cases rr <;> rfl

end Sys2Proof

open Sys2Proof Sys2Proof.Machine

/-- Settles O39: each has one call of the stack, completed or rejected. -/
theorem pushAndPopPairs : Obligations.PushAndPopPairs := by
  intro s rr
  rw [exec_pushRr, exec_popRr, pushRr, popRr, handler_getState]
  exact ⟨decode_pushRr rr, decode_popRr rr, handler_push16_ok _, handler_push16_rejected _, handler_pop16_ok _,
    handler_pop16_rejected _⟩
end

section
/-! PROOFS. The instructions of 48_misc.md but PREFIX CB (R250 to R258): each is one update of the state, and STOP one fetch or
a fault; what DAA makes of two packed decimal digits (R251). -/

namespace Sys2Proof.Machine

theorem stop_fault {s : State} (h : s.cfg.stopMode = .fault) :
    stop s = .error (.unimplemented 0x10#8 (s.pc - 1)) s := by
  simp only [stop, op_bind, getState_run, h, raise_run]

theorem stop_skip {s : State} (h : s.cfg.stopMode = .skip) : stop s = (fetch8 >>= fun _ => pure 1) s := by
  simp only [stop, op_bind, getState_run, h]

theorem fetch8_ok {s : State} (h : s.Readable s.pc) :
    fetch8 s = .ok (s.readValue s.pc) { s.didRead s.pc with pc := s.pc + 1 } :=
  (fetch8_cases s).elim (·.2) fun n => absurd h n.1

theorem fetch8_rejected {s : State} (h : ¬ s.Readable s.pc) :
    fetch8 s = .error (.busError s.pc .read) s.rejected :=
  (fetch8_cases s).elim (fun n => absurd n.1 h) (·.2)

/-! DAA (R251). -/

theorem and_lowNibble_toNat (a : Byte) : (a &&& 0x0F#8).toNat = a.toNat % 16 := by
  rw [BitVec.toNat_and]
  exact Nat.and_two_pow_sub_one_eq_mod a.toNat 4

/-- Two corrections added one after the other are one. -/
theorem add_corrections (a : Byte) (high low : Prop) [Decidable high] [Decidable low] :
    (if low then (if high then a + 0x60#8 else a) + 0x06#8 else if high then a + 0x60#8 else a) =
      a + BitVec.ofNat 8 ((if high then 0x60 else 0) + if low then 0x06 else 0) := by
  split_ifs
  · exact BitVec.add_assoc a _ _
  · rfl
  · rfl
  · exact (BitVec.add_zero a).symm

/-- Two corrections subtracted one after the other are one. -/
theorem sub_corrections (a : Byte) (high low : Prop) [Decidable high] [Decidable low] :
    (if low then (if high then a - 0x60#8 else a) - 0x06#8 else if high then a - 0x60#8 else a) =
      a - BitVec.ofNat 8 ((if high then 0x60 else 0) + if low then 0x06 else 0) := by
  split_ifs
  · exact BitVec.sub_sub ..
  · rfl
  · rfl
  · exact (BitVec.sub_zero a).symm

theorem daaResult_value (a : Byte) (f : Flags) :
    (daaResult a f).1 = if f.n then a - BitVec.ofNat 8 (Expected.daaCorrection a f)
      else a + BitVec.ofNat 8 (Expected.daaCorrection a f) := by
  unfold daaResult Expected.daaCorrection
  cases hn : f.n
  · simp only [Bool.or_eq_true, decide_eq_true_eq, and_lowNibble_toNat]
    exact add_corrections ..
  · exact sub_corrections ..

/-- C is set by the addition case only, from A as it was; Z is the result's (R251). -/
theorem daaResult_flags (a : Byte) (f : Flags) :
    (daaResult a f).2 = { z := decide ((daaResult a f).1 = 0#8), n := f.n, h := false
                          c := f.c || (!f.n && decide (a.toNat > 0x99)) } := by
  unfold daaResult
  cases hn : f.n
  · rfl
  · simp

theorem exec_daa (s : State) :
    exec .daa s = .next { s with a := (daaResult s.a s.f).1, f := (daaResult s.a s.f).2, cycles := some 1 } := rfl

/-- A packed number is its tens in the high nibble and its ones in the low one (00_scope.md glossary). -/
theorem bcd_digits {tens ones : Nat} (ht : tens < 10) (ho : ones < 10) :
    (Expected.bcd (10 * tens + ones)).toNat = 16 * tens + ones := by
  rw [Expected.bcd, BitVec.toNat_ofNat]
  omega

/-- A number below 100 by its two digits. -/
theorem exists_digits {n : Nat} (h : n < 100) : ∃ tens ones, tens < 10 ∧ ones < 10 ∧ n = 10 * tens + ones :=
  ⟨n / 10, n % 10, by omega, by omega, by omega⟩

/-- An addition of packed digits: A wants the high correction exactly when the sum has three digits, and the low one
exactly when the sum of the ones has two (R251). -/
theorem alu_add_digits {a b : Byte} {p q r t : Nat} (hq : q < 10) (ht : t < 10)
    (ha : a.toNat = 16 * p + q) (hb : b.toNat = 16 * r + t) (old : Bool) :
    let sum := Expected.alu .add a b old
    sum.1.toNat = (16 * p + q + (16 * r + t)) % 256 ∧ sum.2.n = false ∧
    (sum.2.c = true ∨ sum.1.toNat > 0x99 ↔ 100 ≤ 10 * p + q + (10 * r + t)) ∧
    (sum.2.h = true ∨ sum.1.toNat % 16 > 9 ↔ 10 ≤ q + t) := by
  simp only [Expected.alu, ha, hb, BitVec.toNat_ofNat, decide_eq_true_eq]
  refine ⟨?_, trivial, ?_, ?_⟩ <;> omega

/-- A subtraction of packed digits: C is the borrow of the whole number, H that of the ones (R251). -/
theorem alu_sub_digits {a b : Byte} {p q r t : Nat} (hq : q < 10) (ht : t < 10)
    (ha : a.toNat = 16 * p + q) (hb : b.toNat = 16 * r + t) (old : Bool) :
    let difference := Expected.alu .sub a b old
    difference.1.toNat = (16 * p + q + 256 - (16 * r + t)) % 256 ∧ difference.2.n = true ∧
    (difference.2.c = true ↔ 10 * p + q < 10 * r + t) ∧ (difference.2.h = true ↔ q < t) := by
  simp only [Expected.alu, ha, hb, BitVec.toNat_ofNat, decide_eq_true_eq]
  refine ⟨?_, trivial, ?_, ?_⟩ <;> omega

/-- DAA of the sum: the correction due takes each digit modulo 10, and C is the decimal carry. -/
theorem daaResult_add {x y : Nat} (hx : x < 100) (hy : y < 100) (old : Bool) :
    let sum := Expected.alu .add (Expected.bcd x) (Expected.bcd y) old
    (daaResult sum.1 sum.2).1 = Expected.bcd ((x + y) % 100) ∧ (daaResult sum.1 sum.2).2.c = decide (100 ≤ x + y) := by
  obtain ⟨p, q, hp, hq, rfl⟩ := exists_digits hx
  obtain ⟨r, t, hr, ht, rfl⟩ := exists_digits hy
  obtain ⟨u, v, hu, hv, hresult⟩ := exists_digits (Nat.mod_lt (10 * p + q + (10 * r + t)) (show 100 > 0 by decide))
  obtain ⟨value, add, high, low⟩ := alu_add_digits hq ht (bcd_digits hp hq) (bcd_digits hr ht) old
  generalize Expected.alu .add (Expected.bcd _) _ old = sum at *
  -- The digits of the result: each is modulo 10, and the ones' carry counts in the tens.
  have ones : q + t = v ∨ q + t = v + 10 := by omega
  have tens : p + r + (q + t - v) / 10 = u ∨ p + r + (q + t - v) / 10 = u + 10 := by omega
  simp only [daaResult_flags, daaResult_value, Expected.daaCorrection, add, hresult, high, low, Bool.false_eq_true, if_false]
  refine ⟨BitVec.eq_of_toNat_eq ?_, ?_⟩
  · simp only [BitVec.toNat_add, BitVec.toNat_ofNat, value, bcd_digits hu hv]
    split_ifs <;> omega
  · simp [← high]

/-- DAA of the difference: the correction due takes each digit modulo 10, and C is the decimal borrow. -/
theorem daaResult_sub {x y : Nat} (hx : x < 100) (hy : y < 100) (old : Bool) :
    let difference := Expected.alu .sub (Expected.bcd x) (Expected.bcd y) old
    (daaResult difference.1 difference.2).1 = Expected.bcd ((x + 100 - y) % 100) ∧
      (daaResult difference.1 difference.2).2.c = decide (x < y) := by
  obtain ⟨p, q, hp, hq, rfl⟩ := exists_digits hx
  obtain ⟨r, t, hr, ht, rfl⟩ := exists_digits hy
  obtain ⟨u, v, hu, hv, hresult⟩ :=
    exists_digits (Nat.mod_lt (10 * p + q + 100 - (10 * r + t)) (show 100 > 0 by decide))
  obtain ⟨value, sub, high, low⟩ := alu_sub_digits hq ht (bcd_digits hp hq) (bcd_digits hr ht) old
  generalize Expected.alu .sub (Expected.bcd _) _ old = difference at *
  simp only [daaResult_flags, daaResult_value, Expected.daaCorrection, sub, hresult, high, low, if_true]
  refine ⟨BitVec.eq_of_toNat_eq ?_, ?_⟩
  · simp only [BitVec.toNat_sub, BitVec.toNat_ofNat, value, bcd_digits hu hv]
    split_ifs <;> omega
  · simp [← high]

end Sys2Proof.Machine

open Sys2Proof Sys2Proof.Machine

/-- Settles O40: each is one update of the state. -/
theorem nopAndFlagInstructions : Obligations.NopAndFlagInstructions := by
  intro s
  have complement : ~~~s.a = 0xFF#8 - s.a := (BitVec.allOnes_sub_eq_not s.a).symm
  exact ⟨rfl, rfl, rfl, complement ▸ rfl, rfl, rfl, rfl, rfl⟩

/-- Settles O43: each is one update of the state. -/
theorem haltAndInterruptEnable : Obligations.HaltAndInterruptEnable := fun _ => ⟨rfl, rfl, rfl, rfl, rfl, rfl⟩

/-- Settles O44: under Fault it raises the fault where it stands, under Skip it is one fetch, completed or rejected. -/
theorem stopByMode : Obligations.StopByMode := fun _ =>
  ⟨fun _ => rfl, fun hmode => handler_error (stop_fault hmode),
    fun hmode hread => handler_ok ((stop_skip hmode).trans (op_bind_ok (fetch8_ok hread))),
    fun hmode hread => handler_error ((stop_skip hmode).trans (op_bind_error (fetch8_rejected hread)))⟩

/-- Settles O41: the corrections are one sum, and C is the high one's condition. -/
theorem decimalAdjust : Obligations.DecimalAdjust := by
  intro s k r
  have value : (daaResult s.a s.f).1 = r := daaResult_value s.a s.f
  refine ⟨rfl, ?_⟩
  rw [exec_daa, daaResult_flags, value]

/-- Settles O42: DAA runs on what the addition, or the subtraction, left in A and the flags. -/
theorem decimalArithmetic : Obligations.DecimalArithmetic := by
  intro s x y hx hy ha hb
  have sum := daaResult_add hx hy s.f.c
  have difference := daaResult_sub hx hy s.f.c
  rw [← ha, ← hb] at sum difference
  exact ⟨⟨_, _, (aluRegisterForms s .add .b).2, exec_daa _, sum⟩,
    ⟨_, _, (aluRegisterForms s .sub .b).2, exec_daa _, difference⟩⟩
end

section
/-! PROOFS. PREFIX CB (48_misc.md R259): the grid's cells are the handlers by the CB byte's fields, and their counts. -/

namespace Sys2Proof.Machine

/-- Each cell of the CB grid runs what PREFIX CB runs on its CB byte: the handler that the byte's fields select (30_encoding.md
R76, R80; 48_misc.md R259). -/
theorem exec_decodeCb (cb : Byte) : exec (decodeCb cb) = handler (prefixCb cb) :=
  apply_gridCell (f := exec) (g := fun cb => handler (prefixCb cb)) rfl cb

/-- Whenever the handler ends, its count is between the two bounds. -/
def CountsWithin (lo hi : Nat) (op : Op Nat) : Prop := ∀ s n t, op s = .ok n t → lo ≤ n ∧ n ≤ hi

namespace CountsWithin

variable {lo hi : Nat}

theorem pure {n : Nat} (hlo : lo ≤ n) (hhi : n ≤ hi) : CountsWithin lo hi (Pure.pure n) :=
  fun _ _ _ e => by cases e; exact ⟨hlo, hhi⟩

/-- What a sequence ends with counts, on the values that its first part can give. -/
theorem bind_ok {α : Type} {x : Op α} {f : α → Op Nat} (hf : ∀ s v t, x s = .ok v t → CountsWithin lo hi (f v)) :
    CountsWithin lo hi (x >>= f) := by
  intro s n t e
  rw [op_bind] at e
  cases hx : x s with
  | ok v u => rw [hx] at e; exact hf s v u hx u n t e
  | error fault u => rw [hx] at e; cases e

theorem bind {α : Type} {x : Op α} {f : α → Op Nat} (hf : ∀ v, CountsWithin lo hi (f v)) :
    CountsWithin lo hi (x >>= f) := bind_ok fun _ v _ _ => hf v

theorem cbHandlerR (x : Nat) (y : Fin 8) (r : Reg8) : CountsWithin 1 3 (cbHandlerR x y r) := by
  have one : CountsWithin 1 3 (Pure.pure 1) := pure (by decide) (by decide)
  unfold Machine.cbHandlerR
  split
  · exact bind fun _ => bind fun _ => bind fun _ => one
  all_goals exact bind fun _ => one

theorem cbHandlerMemHl (x : Nat) (y : Fin 8) : CountsWithin 1 3 (cbHandlerMemHl x y) := by
  have two : CountsWithin 1 3 (Pure.pure 2) := pure (by decide) (by decide)
  have three : CountsWithin 1 3 (Pure.pure 3) := pure (by decide) (by decide)
  unfold Machine.cbHandlerMemHl
  split
  · exact bind fun _ => bind fun _ => bind fun _ => bind fun _ => three
  · exact bind fun _ => bind fun _ => bind fun _ => two
  all_goals exact bind fun _ => bind fun _ => bind fun _ => three

theorem cbHandler (cb : Byte) : CountsWithin 1 3 (cbHandler cb) := by
  unfold Machine.cbHandler
  split
  · exact cbHandlerR _ _ _
  · exact cbHandlerMemHl _ _

/-- PREFIX CB adds its own 1 (48_misc.md R259). -/
theorem prefixed {op : Op Nat} (h : CountsWithin lo hi op) : CountsWithin (1 + lo) (1 + hi) (prefixed op) :=
  bind_ok fun s n t e => (h s n t e).elim fun hlo hhi => pure (Nat.add_le_add_left hlo 1) (Nat.add_le_add_left hhi 1)

/-- The count a handler reports is its operation's. -/
theorem handler {op : Op Nat} (h : CountsWithin lo hi op) (s : State) :
    ∃ t, handler op s = .next t ∧ ∀ n, t.cycles = some n → lo ≤ n ∧ n ≤ hi := by
  rcases handler_cases op s with ⟨n, t, run, e⟩ | ⟨f, t, -, e⟩
  · exact ⟨_, e, fun m hm => by cases hm; exact h s n t run⟩
  · exact ⟨_, e, fun m hm => nomatch hm⟩

end CountsWithin

end Sys2Proof.Machine

open Sys2Proof Sys2Proof.Machine

/-- Settles O45: cell by cell the grid and the fields give the same handler, whose count is that of its last step. -/
theorem prefixDispatchesCbTable : Obligations.PrefixDispatchesCbTable := fun s cb _ =>
  ⟨rfl, decode_two rfl cb [], (congrFun (exec_decodeCb cb) s).symm, (CountsWithin.cbHandler cb).prefixed.handler s⟩
end

section
/-! PROOFS. Interrupts (60_exceptions.md R276 to R288): which source is serviced, the interrupt entry, and the two scans that lead
to it, the check after an instruction and the poll of a Halted core. -/

namespace Sys2Proof.Machine

/-! A settled operation step by step. -/

@[simp] theorem settle_getState {α : Type} (f : State → Op α) (s : State) :
    settle (getState >>= f) s = settle (f s) s := rfl

@[simp] theorem settle_updateState {α : Type} (g : State → State) (f : Unit → Op α) (s : State) :
    settle (updateState g >>= f) s = settle (f ()) (g s) := rfl

@[simp] theorem settle_timerInc {α : Type} (n : Nat) (f : Unit → Op α) (s : State) :
    settle (timerInc n >>= f) s = settle (f ()) (s.timed n) := rfl

theorem settle_memRead_ok {α : Type} {addr : Word} {s : State} (f : Byte → Op α) (h : s.Readable addr) :
    settle (memRead addr >>= f) s = settle (f (s.readValue addr)) (s.didRead addr) := settle_bind_ok (memRead_ok h)

theorem settle_memRead_rejected {α : Type} {addr : Word} {s : State} (f : Byte → Op α) (h : ¬ s.Readable addr) :
    settle (memRead addr >>= f) s = .next (s.rejected.faultedBy (.busError addr .read)) :=
  settle_error (op_bind_error (memRead_rejected h))

theorem settle_memWrite_ok {α : Type} {addr : Word} {v : Byte} {s : State} (f : Unit → Op α) (h : s.Writable addr) :
    settle (memWrite addr v >>= f) s = settle (f ()) (s.didWrite addr v) := settle_bind_ok (memWrite_ok h)

theorem settle_memWrite_rejected {α : Type} {addr : Word} {v : Byte} {s : State} (f : Unit → Op α)
    (h : ¬ s.Writable addr) :
    settle (memWrite addr v >>= f) s = .next (s.rejected.faultedBy (.busError addr .write)) :=
  settle_error (op_bind_error (memWrite_rejected h))

/-- The reported count is as it was. -/
def KeepsCycles (s t : State) : Prop := t.cycles = s.cycles

theorem KeepsCycles.keptByEffects : KeptByEffects (fun _ => True) KeepsCycles (fun _ => True) where
  refl _ := rfl
  trans h k := k.trans h
  carries _ _ := trivial
  registers _ _ _ _ _ _ _ _ _ _ _ := rfl
  didRead _ _ := rfl
  didWrite _ _ _ := rfl
  rejected _ := rfl
  busError _ _ _ _ := trivial

/-- Outside a handler a push that a rejected write ended leaves the reported count alone. -/
theorem settle_push16_rejected {α : Type} {v : Word} {s : State} (f : Unit → Op α) (h : ¬ s.CanPush v) :
    settle (push16 v >>= f) s = .next { s.pushFault v with cycles := s.cycles } := by
  rcases push16_cases v s with ⟨n, -⟩ | ⟨-, fault, t, run, faulted⟩
  · exact absurd n h
  · have cycles_kept : t.cycles = s.cycles := ((KeepsCycles.keptByEffects.push16 v s trivial).2 fault t run).1
    rw [settle_error (op_bind_error run), ← faulted, ← cycles_kept]
    rfl

theorem settle_push16_ok {α : Type} {v : Word} {s : State} (f : Unit → Op α) (h : s.CanPush v) :
    settle (push16 v >>= f) s = settle (f ()) (s.pushed v) := settle_bind_ok (push16_ok h)

/-! What a Timer call leaves of the control fields. -/

@[simp] theorem State.timed_ime (s : State) (n : Nat) : (s.timed n).ime = s.ime := State.deviceRequests_ime _

@[simp] theorem State.timed_eiDelay (s : State) (n : Nat) : (s.timed n).eiDelay = s.eiDelay := State.deviceRequests_eiDelay _

@[simp] theorem State.timed_run (s : State) (n : Nat) : (s.timed n).run = s.run := State.deviceRequests_run _

@[simp] theorem State.timed_cfg (s : State) (n : Nat) : (s.timed n).cfg = s.cfg := State.deviceRequests_cfg _

/-! The sources (R276, R283). -/

theorem firstServiceable_eq (ie iflag : Byte) :
    firstServiceable ie iflag = sourcePriority.find? fun k => (ie &&& iflag).getLsbD (sourceBit k).val := by
  simp only [firstServiceable, getBit, BitVec.getLsbD_and]

/-- The sources stand in the order of priority by their bits (R276, R283). -/
theorem sourceBit_getElem : ∀ j (h : j < sourcePriority.length), (sourceBit sourcePriority[j]).val = j := by decide

theorem sourceBit_lt (k : Source) : (sourceBit k).val < sourcePriority.length := by cases k <;> decide

theorem getElem_sourceBit (k : Source) : sourcePriority[(sourceBit k).val]'(sourceBit_lt k) = k := by cases k <;> rfl

/-- So the first source that meets a condition is the one of the lowest bit. -/
theorem find?_sourcePriority_eq_some (p : Nat → Bool) (k : Source) :
    sourcePriority.find? (fun k => p (sourceBit k).val) = some k ↔
      p (sourceBit k).val = true ∧ ∀ j, j < (sourceBit k).val → p j = false := by
  rw [List.find?_eq_some_iff_getElem]
  refine and_congr_right fun _ => ⟨?_, fun before => ⟨_, sourceBit_lt k, getElem_sourceBit k, fun j hj => ?_⟩⟩
  · rintro ⟨i, hi, rfl, before⟩ j hj
    rw [sourceBit_getElem] at hj
    simpa only [sourceBit_getElem, Bool.not_eq_true'] using before j hj
  · rw [sourceBit_getElem, before j hj]
    rfl

theorem find?_sourcePriority_eq_none (p : Nat → Bool) :
    sourcePriority.find? (fun k => p (sourceBit k).val) = none ↔ ∀ j, j < 5 → p j = false := by
  rw [List.find?_eq_none]
  refine ⟨fun h j hj => ?_, fun h k _ => ?_⟩
  · have hlisted : j < sourcePriority.length := hj
    rw [← sourceBit_getElem j hlisted]
    exact Bool.eq_false_iff.2 (h _ (List.getElem_mem hlisted))
  · rw [h _ (sourceBit_lt k)]
    exact Bool.false_ne_true

/-- The mask of the five source bits (R276). -/
theorem and_sources_eq_zero (v : Byte) : v &&& 0x1F#8 = 0#8 ↔ ∀ j, j < 5 → v.getLsbD j = false := by
  have mask (j : Nat) : (0x1F#8).getLsbD j = decide (j < 5) := Nat.testBit_two_pow_sub_one 5 j
  simp only [BitVec.eq_of_getLsbD_eq_iff, BitVec.getLsbD_and, mask, BitVec.getLsbD_zero, Bool.and_eq_false_iff,
    decide_eq_false_iff_not]
  exact ⟨fun h j hj => (h j (by omega)).resolve_right (not_not.2 hj),
    fun h j _ => (Nat.lt_or_ge j 5).imp (h j) Nat.not_lt.2⟩

/-! The interrupt entry (R284). -/

/-- The entry after its write of IF was accepted: the source's bit is cleared in the byte read. -/
theorem settle_service_ok {s : State} (k : Source) (iflag : Byte) (h : s.Writable s.cfg.ifAddr) :
    settle (service k iflag) s =
      settle (push16 s.pc >>= fun _ => updateState (fun t => { t with pc := sourceVector k, run := .running }) >>= fun _ =>
        timerInc 5)
      (({ s with ime := false } : State).didWrite s.cfg.ifAddr (iflag &&& ~~~(1#8 <<< (sourceBit k).val))) := by
  have cleared := setBit_eq iflag (sourceBit k) false
  rw [if_neg Bool.false_ne_true] at cleared
  rw [← cleared]
  exact settle_memWrite_ok _ h

theorem settle_service_rejected {s : State} (k : Source) (iflag : Byte) (h : ¬ s.Writable s.cfg.ifAddr) :
    settle (service k iflag) s =
      .next (({ s with ime := false } : State).rejected.faultedBy (.busError s.cfg.ifAddr .write)) :=
  settle_memWrite_rejected _ h

theorem settle_serviceFirst (ie iflag : Byte) (s : State) :
    settle (serviceFirst ie iflag) s = match firstServiceable ie iflag with
      | some k => settle (service k iflag) s
      | none => .next s := by
  unfold serviceFirst
  cases firstServiceable ie iflag <;> rfl

/-! The two scans. -/

/-- Reading IE, then IF: both bytes go to what follows, or the first rejected read faults the core (R282, R285). -/
theorem settle_readIeIf {α : Type} (f : Byte → Byte → Op α) (u : State) :
    let scan := memRead u.cfg.ieAddr >>= fun ie => memRead u.cfg.ifAddr >>= fun iflag => f ie iflag
    let w := u.didRead u.cfg.ieAddr
    (u.Readable u.cfg.ieAddr → w.Readable u.cfg.ifAddr →
      settle scan u = settle (f (u.readValue u.cfg.ieAddr) (w.readValue u.cfg.ifAddr)) (w.didRead u.cfg.ifAddr)) ∧
    (¬ u.Readable u.cfg.ieAddr → settle scan u = .next (u.rejected.faultedBy (.busError u.cfg.ieAddr .read))) ∧
    (u.Readable u.cfg.ieAddr → ¬ w.Readable u.cfg.ifAddr →
      settle scan u = .next (w.rejected.faultedBy (.busError u.cfg.ifAddr .read))) :=
  ⟨fun hie hif => (settle_memRead_ok _ hie).trans (settle_memRead_ok _ hif), settle_memRead_rejected _,
    fun hie hif => (settle_memRead_ok _ hie).trans (settle_memRead_rejected _ hif)⟩

/-- No check follows the Timer call of a core that is not Running (R281, D11). -/
theorem afterInstruction_notRunning {s : State} (m : Nat) (h : s.run ≠ .running) :
    settle (afterInstruction m) s = .next (s.timed m) := by
  rw [afterInstruction, settle_timerInc, settle_getState, State.timed_run, if_neg h]
  rfl

theorem afterInstruction_running {s : State} (m : Nat) (h : s.run = .running) :
    settle (afterInstruction m) s = settle interruptCheck (s.timed m) := by
  rw [afterInstruction, settle_timerInc, settle_getState, State.timed_run, if_pos h]

theorem interruptCheck_eiDelay_set {s : State} (h : s.eiDelay = true) :
    settle interruptCheck s = .next { s with eiDelay := false } := by
  rw [interruptCheck, settle_getState, if_pos h]
  rfl

theorem interruptCheck_masked {s : State} (hdelay : s.eiDelay = false) (hime : s.ime = false) :
    settle interruptCheck s = .next s := by
  rw [interruptCheck, settle_getState, hdelay, hime]
  rfl

theorem interruptCheck_enabled {s : State} (hdelay : s.eiDelay = false) (hime : s.ime = true) :
    settle interruptCheck s = settle (memRead s.cfg.ieAddr >>= fun ie => memRead s.cfg.ifAddr >>= fun iflag =>
      serviceFirst ie iflag) s := by
  rw [interruptCheck, settle_getState, hdelay, hime]
  rfl

/-- What the poll of a Halted core does with IE and IF once they are read (R285). -/
def wakeAndService (mask : Byte) (ime : Bool) (ie iflag : Byte) : Op Unit :=
  if ie &&& iflag &&& mask = 0#8 then pure ()
  else updateState (fun s => { s with run := .running }) >>= fun _ => if ime then serviceFirst ie iflag else pure ()

theorem settle_haltedPoll (s : State) :
    let u := s.timed 1
    settle haltedPoll s = settle (memRead u.cfg.ieAddr >>= fun ie => memRead u.cfg.ifAddr >>= fun iflag =>
      wakeAndService (wakeByte u.cfg.wakeMask) u.ime ie iflag) u := rfl

theorem settle_wakeAndService_stay {mask ie iflag : Byte} (h : ie &&& iflag &&& mask = 0#8) (ime : Bool) (s : State) :
    settle (wakeAndService mask ime ie iflag) s = .next s := by
  rw [wakeAndService, if_pos h]
  rfl

theorem settle_wakeAndService_wake {mask ie iflag : Byte} (h : ie &&& iflag &&& mask ≠ 0#8) (ime : Bool) (s : State) :
    settle (wakeAndService mask ime ie iflag) s =
      if ime then settle (serviceFirst ie iflag) { s with run := .running } else .next { s with run := .running } := by
  rw [wakeAndService, if_neg h, settle_updateState]
  cases ime <;> rfl

theorem step_halted {s : State} (h : s.run = .halted) : step s = settle haltedPoll s.beginIteration := by
  unfold step iteration
  rw [h]
  rfl

theorem wakeByte_eq (mask : WakeMask) : wakeByte mask = if mask = .sources then 0x1F else 0xFF := by cases mask <;> rfl

/-! An iteration of EI. -/

/-- With EI at PC, Execute() is its fetch and EI (48_misc.md R258). -/
theorem execute_ei {s : State} (hread : s.Readable s.pc) (hbyte : s.readValue s.pc = 0xFB#8) :
    execute s.beginIteration = exec .ei (s.fetched 1) := by
  have hop : s.fetchedByte 0 = 0xFB#8 := s.fetchedByte_zero.trans hbyte
  have hcount : fetchedBytes (s.fetchedByte 0) = 1 := congrArg fetchedBytes hop
  have hdecode : decode [s.fetchedByte 0, s.fetchedByte 1, s.fetchedByte 2] =
      .ok (.ei, [s.fetchedByte 1, s.fetchedByte 2]) := by rw [hop]; rfl
  rw [execute_decoded hdecode, hcount]
  intro k hk
  obtain rfl : k = 0 := by omega
  exact State.canFetch_zero.2 hread

theorem State.fetched_one (s : State) : s.fetched 1 = { s.beginIteration.didRead s.pc with pc := s.pc + 1 } := by
  have first : s.pc + BitVec.ofNat 16 0 = s.pc := BitVec.add_zero s.pc
  rw [State.fetched, State.afterFetch, State.afterFetch, State.beginIteration_pc, first]
  rfl

/-- An instruction that reports a count is followed by the Timer call and the check (R281). -/
theorem step_of_execute_returns {s t : State} {n : Nat} (hrun : s.run = .running)
    (h : execute s.beginIteration = .next (t.returns n)) : step s = settle (afterInstruction n) (t.returns n) := by
  rw [step_running hrun]
  unfold runningIteration
  rw [h]
  rfl

end Sys2Proof.Machine

open Sys2Proof Sys2Proof.Machine

/-- Settles O48: the first in the order of priority is the one of the lowest bit. -/
theorem servicePriority : Obligations.ServicePriority := by
  intro ie iflag
  rw [firstServiceable_eq]
  refine ⟨find?_sourcePriority_eq_some _, ?_, fun k => by cases k <;> rfl⟩
  exact (find?_sourcePriority_eq_none _).trans (and_sources_eq_zero _).symm

/-- Settles O49: the write of IF, then the push, each completed or rejected, then the jump and the Timer call. -/
theorem interruptEntry : Obligations.InterruptEntry := by
  intro s k iflag masked cleared
  refine ⟨fun hif hpush => ?_, settle_service_rejected k iflag, fun hif hpush => ?_, rfl, rfl, rfl, rfl, rfl⟩
  · rw [settle_service_ok k iflag hif]
    exact settle_push16_ok _ hpush
  · rw [settle_service_ok k iflag hif]
    exact settle_push16_rejected _ hpush

/-- Settles O47: the run state, eiDelay and IME, which the Timer call leaves, decide whether there is a scan. -/
theorem interruptCheckCases : Obligations.InterruptCheckCases := by
  intro s m u ie w iflag v
  refine ⟨fun hrun => afterInstruction_notRunning m (by simp [hrun]), fun hrun hdelay => ?_, fun hrun hdelay hime => ?_,
    fun hrun hdelay hime => ?_⟩
  all_goals rw [afterInstruction_running m hrun]
  · exact interruptCheck_eiDelay_set ((s.timed_eiDelay m).trans hdelay)
  · exact interruptCheck_masked ((s.timed_eiDelay m).trans hdelay) ((s.timed_ime m).trans hime)
  · rw [interruptCheck_enabled ((s.timed_eiDelay m).trans hdelay) ((s.timed_ime m).trans hime), ← s.timed_cfg m]
    obtain ⟨accepted, rejected⟩ := settle_readIeIf serviceFirst u
    exact ⟨fun hie hif => (accepted hie hif).trans (settle_serviceFirst ie iflag v), rejected⟩

/-- Settles O50: the Timer call, then the scan, and the mask and IME decide what follows it. -/
theorem haltedIteration : Obligations.HaltedIteration := by
  intro s hrun u ie w iflag v mask
  have hcfg : s.cfg = u.cfg := (State.timed_cfg s.beginIteration 1).symm
  have hmask : mask = wakeByte u.cfg.wakeMask := by rw [wakeByte_eq, ← hcfg]
  have hime : s.ime = u.ime := (State.timed_ime s.beginIteration 1).symm
  obtain ⟨accepted, rejected⟩ := settle_readIeIf (wakeAndService (wakeByte u.cfg.wakeMask) u.ime) u
  rw [step_halted hrun, settle_haltedPoll, hmask, hcfg, hime]
  refine ⟨fun hie hif => ?_, rejected⟩
  refine ⟨fun hzero => ?_, fun hwake hime => ?_, fun hwake hime => ?_⟩
  all_goals refine (accepted hie hif).trans ?_
  · exact settle_wakeAndService_stay hzero _ v
  · rw [settle_wakeAndService_wake hwake, hime]
    rfl
  · rw [settle_wakeAndService_wake hwake, hime]
    exact settle_serviceFirst ie iflag _

/-- Settles O51: EI sets eiDelay, and the check after it clears eiDelay and scans nothing. -/
theorem eiDelaysService : Obligations.EiDelaysService := by
  intro s hrun hread hbyte
  have hexecute := (execute_ei hread hbyte).trans (exec_ei _)
  rw [State.fetched_one] at hexecute
  rw [step_of_execute_returns hrun hexecute, ← hbyte]
  exact (interruptCheckCases _ 1).2.1 hrun rfl
end

section
/-! PROOFS. A bus that never fails (20_memory.md R64): what it goes on doing, and which faults are left (60_exceptions.md R270 to
R274). -/

namespace Sys2Proof.Machine

/-- A bus that never failed before does not fail after. -/
def KeepsNeverFails (s t : State) : Prop := s.BusNeverFails → t.BusNeverFails

theorem State.BusNeverFails.timed {s : State} (h : s.BusNeverFails) (n : Nat) : (s.timed n).BusNeverFails := by
  have replies_kept : (s.timed n).replies = s.replies := State.deviceRequests_replies _
  exact ⟨(State.deviceRequests_rejects _).trans h.1, fun r hr => h.2 r (replies_kept ▸ hr)⟩

theorem State.BusNeverFails.canPush {s : State} (h : s.BusNeverFails) (v : Word) : s.CanPush v :=
  ⟨h.accepts _, (h.didWrite _ _).accepts _⟩

/-- Only bus calls use up replies, and nothing rejects more sites. -/
theorem KeepsNeverFails.keptByRun {I : State → Prop} {E : Fault → Prop}
    (carries : ∀ {s t}, KeepsNeverFails s t → I s → I t)
    (busError : ∀ s site, I s → ¬ s.accepts site = true → E (.busError site.addr site.dir)) :
    KeptByRun I KeepsNeverFails E where
  refl _ h := h
  trans h k hs := k (h hs)
  carries := carries
  registers _ _ _ _ _ _ _ _ _ _ _ h := h
  didRead _ _ h := h.didRead _
  didWrite _ _ _ h := h.didWrite _ _
  rejected _ h := h.afterCall rfl rfl
  busError := busError
  control _ _ _ _ _ h := h
  timed _ n h := h.timed n
  beginIteration _ h := h

theorem KeepsNeverFails.anyFault : KeptByRun (fun _ => True) KeepsNeverFails (fun _ => True) :=
  keptByRun (fun _ _ => trivial) fun _ _ _ _ => trivial

/-- On a bus that never fails no effect raises a fault. -/
theorem KeepsNeverFails.noFault : KeptByRun State.BusNeverFails KeepsNeverFails (fun _ => False) :=
  keptByRun (fun h => h) fun _ site hbus rejected => rejected (hbus.accepts site)

/-- Every instruction but STOP and the illegal opcodes runs an operation that raises no fault there. -/
theorem exec_noFault {i : Instr} (hstop : i ≠ .stop) (hillegal : ∀ k, i ≠ Instr.illegal k) :
    ∃ op, (∀ s, exec i s = handler op s) ∧ OpKeeps State.BusNeverFails KeepsNeverFails (fun _ => False) op := by
  have k := KeepsNeverFails.noFault
  rcases exec_keeps_or_control k.toKeptByEffects i with h | rfl | rfl | rfl | rfl | rfl | ⟨n, rfl⟩
  · exact h
  · exact ⟨halt, fun _ => rfl, k.halt fun s => k.control s _ _ _ _⟩
  · exact absurd rfl hstop
  · exact ⟨di, fun _ => rfl, k.di fun s => k.control s _ _ _ _⟩
  · exact ⟨ei, fun _ => rfl, k.ei fun s => k.control s _ _ _ _⟩
  · exact ⟨reti, fun _ => rfl, k.reti fun s _ => k.controlledJump s _ _ _⟩
  · exact absurd rfl (hillegal n)

/-- An instruction that reports a count leaves an operational core operational (10_state.md R31). -/
theorem exec_operational {i : Instr} {s u : State} (h : exec i s = .next u) (hrun : s.run.operational = true)
    (hcount : u.cycles ≠ none) : u.run.operational = true := by
  obtain ⟨-, -, same | ⟨-, halted⟩ | ⟨hnone, -⟩, -⟩ := controlFrame i s u h
  · rw [same]; exact hrun
  · rw [halted]; rfl
  · exact absurd hnone hcount

/-- The instructions that report no count on a bus that never fails, and the fault each records (R273, R274). -/
theorem exec_noCount {i : Instr} {s u : State} (hbus : s.BusNeverFails) (h : exec i s = .next u) (hnone : u.cycles = none) :
    (i = .stop ∧ s.cfg.stopMode = .fault ∧ u.run = .faulted (.unimplemented 0x10#8 (s.pc - 1))) ∨
      ∃ k, i = Instr.illegal k ∧ u.run = .faulted (.illegalOpcode (illegalOpcodes.get k) (s.pc - 1)) := by
  by_cases hstop : i = .stop
  · subst hstop
    cases hmode : s.cfg.stopMode with
    | fault => cases (handler_error (stop_fault hmode)).symm.trans h; exact .inl ⟨rfl, rfl, rfl⟩
    | skip => cases ((stopByMode s).2.2.1 hmode (hbus.accepts _)).symm.trans h; cases hnone
  by_cases hillegal : ∃ k, i = Instr.illegal k
  · obtain ⟨k, rfl⟩ := hillegal
    cases (exec_illegal k s).symm.trans h
    exact .inr ⟨k, rfl, rfl⟩
  obtain ⟨op, hexec, hop⟩ := exec_noFault hstop (not_exists.1 hillegal)
  rcases handler_cases op s with ⟨n, t, -, e⟩ | ⟨f, t, run, -⟩
  · cases (hexec s).symm.trans h |>.symm.trans e
    cases hnone
  · exact ((hop s hbus).2 f t run).2.elim

/-- The interrupt entry completes there, and leaves the core Running (R284). -/
theorem settle_service_run {s : State} (hbus : s.BusNeverFails) (k : Source) (iflag : Byte) :
    ∃ t, settle (service k iflag) s = .next t ∧ t.run = .running := by
  have masked_bus : ({ s with ime := false } : State).BusNeverFails := hbus
  have cleared_bus := masked_bus.didWrite s.cfg.ifAddr (iflag &&& ~~~(1#8 <<< (sourceBit k).val))
  exact ⟨_, (interruptEntry s k iflag).1 (hbus.accepts _) (cleared_bus.canPush s.pc), State.timed_run _ _⟩

theorem settle_serviceFirst_run {s : State} (hbus : s.BusNeverFails) (hrun : s.run = .running) (ie iflag : Byte) :
    ∃ t, settle (serviceFirst ie iflag) s = .next t ∧ t.run = .running := by
  rw [settle_serviceFirst]
  cases firstServiceable ie iflag with
  | some k => exact settle_service_run hbus k iflag
  | none => exact ⟨s, rfl, hrun⟩

/-- What follows an instruction raises no fault there (R281, R282). -/
theorem afterInstruction_operational {s : State} (hbus : s.BusNeverFails) (hrun : s.run.operational = true) (m : Nat) :
    ∃ t, settle (afterInstruction m) s = .next t ∧ t.run.operational = true := by
  have timed_run := s.timed_run m
  by_cases hrunning : s.run = .running
  · rw [afterInstruction_running m hrunning]
    cases hdelay : (s.timed m).eiDelay with
    | true => exact ⟨_, interruptCheck_eiDelay_set hdelay, timed_run ▸ hrun⟩
    | false =>
      cases hime : (s.timed m).ime with
      | false => exact ⟨_, interruptCheck_masked hdelay hime, timed_run ▸ hrun⟩
      | true =>
        have hu := hbus.timed m
        have hw := hu.didRead (s.timed m).cfg.ieAddr
        rw [interruptCheck_enabled hdelay hime, (settle_readIeIf serviceFirst _).1 (hu.accepts _) (hw.accepts _)]
        obtain ⟨t, serviced, running⟩ := settle_serviceFirst_run (hw.didRead _) (timed_run.trans hrunning) _ _
        exact ⟨t, serviced, running ▸ rfl⟩
  · exact ⟨_, afterInstruction_notRunning m hrunning, timed_run ▸ hrun⟩

theorem settle_wakeAndService_operational {s : State} (hbus : s.BusNeverFails) (hrun : s.run.operational = true)
    (mask : Byte) (ime : Bool) (ie iflag : Byte) :
    ∃ t, settle (wakeAndService mask ime ie iflag) s = .next t ∧ t.run.operational = true := by
  by_cases hzero : ie &&& iflag &&& mask = 0#8
  · exact ⟨s, settle_wakeAndService_stay hzero ime s, hrun⟩
  · rw [settle_wakeAndService_wake hzero]
    cases ime with
    | false => exact ⟨_, rfl, rfl⟩
    | true =>
      obtain ⟨t, serviced, running⟩ := settle_serviceFirst_run (s := { s with run := .running }) hbus rfl ie iflag
      exact ⟨t, serviced, running ▸ rfl⟩

/-- The poll of a Halted core raises no fault there (R285). -/
theorem haltedPoll_operational {s : State} (hbus : s.BusNeverFails) (hrun : s.run.operational = true) :
    ∃ t, settle haltedPoll s = .next t ∧ t.run.operational = true := by
  have hu := hbus.timed 1
  have hw := hu.didRead (s.timed 1).cfg.ieAddr
  rw [settle_haltedPoll, (settle_readIeIf _ _).1 (hu.accepts _) (hw.accepts _)]
  exact settle_wakeAndService_operational (hw.didRead _) ((s.timed_run 1) ▸ hrun) _ _ _ _

/-! The opcodes that the two faults record, and the address of each. -/

theorem decodeBytes_eq_stop {op b1 b2 : Byte} (h : decodeBytes op b1 b2 = .stop) : op = 0x10#8 :=
  (List.cons.inj ((encode_decodeBytes op b1 b2).symm.trans (congrArg encode h))).1

theorem fetchedBytes_illegal : ∀ op ∈ illegalOpcodes, fetchedBytes op = 1 := by decide

/-- After a fetch of one byte the opcode's address is one before PC (R273, R274). -/
theorem pc_sub_one_of_fetchInstr {s t : State} {i : Instr} (h : fetchInstr s = .ok i t)
    (hop : fetchedBytes (s.readValue s.pc) = 1) : t.pc - 1 = s.pc := by
  obtain ⟨-, -, -, rfl⟩ := fetchInstr_ok h
  rw [hop, State.afterFetch_pc]
  exact BitVec.add_sub_cancel s.pc 1

/-- The two ways an instruction's fault names the opcode at PC and its address. -/
theorem fault_of_noCount {s t u : State} {i : Instr} (hfetch : fetchInstr s = .ok i t) (ht : t.BusNeverFails)
    (hexec : exec i t = .next u) (hnone : u.cycles = none) :
    (s.readValue s.pc ∈ illegalOpcodes ∧ u.run = .faulted (.illegalOpcode (s.readValue s.pc) s.pc)) ∨
      (s.readValue s.pc = 0x10#8 ∧ s.cfg.stopMode = .fault ∧ u.run = .faulted (.unimplemented 0x10#8 s.pc)) := by
  obtain ⟨b1, b2, hi, ht_eq⟩ := fetchInstr_ok hfetch
  rcases exec_noCount ht hexec hnone with ⟨hstop, hmode, recorded⟩ | ⟨k, hillegal, recorded⟩
  · have hop := decodeBytes_eq_stop (hi.symm.trans hstop)
    rw [pc_sub_one_of_fetchInstr hfetch (congrArg fetchedBytes hop)] at recorded
    rw [ht_eq, State.afterFetch_cfg] at hmode
    exact .inr ⟨hop, hmode, recorded⟩
  · have hop := decodeBytes_eq_illegal.1 (hi.symm.trans hillegal)
    have hlisted : s.readValue s.pc ∈ illegalOpcodes := hop ▸ List.get_mem illegalOpcodes k
    rw [pc_sub_one_of_fetchInstr hfetch (fetchedBytes_illegal _ hlisted), hop] at recorded
    exact .inl ⟨hlisted, recorded⟩

end Sys2Proof.Machine

open Sys2Proof Sys2Proof.Machine

/-- Settles O55, by the cases of a step: the fetch, the poll and the check raise no fault, and an instruction that reports no
count is STOP or an illegal opcode, fetched from the one byte at PC. -/
theorem faultsOnReferenceMemory : Obligations.FaultsOnReferenceMemory := by
  intro s s' hbus hrun h
  refine ⟨KeepsNeverFails.anyFault.step h hbus, fun f hf => ?_⟩
  have hbegin : s.beginIteration.BusNeverFails := hbus
  have not_operational : ¬ s'.run.operational = true := by rw [hf]; exact Bool.false_ne_true
  rcases step_cases h with ⟨-, hpoll⟩ | ⟨hrunning, ⟨_, t, hfetch, -⟩ | ⟨i, t, u, hfetch, hexec, hafter⟩⟩
  · obtain ⟨t, e, operational⟩ := haltedPoll_operational hbegin hrun
    cases e.symm.trans hpoll
    exact absurd operational not_operational
  · exact ((KeepsNeverFails.noFault.fetchInstr _ hbegin).2 _ t hfetch).2.elim
  · have ht := (KeepsNeverFails.noFault.fetchInstr _ hbegin).1 i t hfetch hbegin
    rcases hafter with ⟨hnone, rfl⟩ | ⟨n, hcount, hafter⟩
    · have recorded := fault_of_noCount hfetch ht hexec hnone
      rw [hf, RunState.faulted.injEq, RunState.faulted.injEq] at recorded
      exact ⟨hrunning, recorded⟩
    · obtain ⟨-, -, -, rfl⟩ := fetchInstr_ok hfetch
      have hu := exec_operational hexec ((State.afterFetch_run _ _).symm ▸ hrun) (by simp [hcount])
      obtain ⟨v, e, hv⟩ := afterInstruction_operational (KeepsNeverFails.anyFault.exec hexec ht) hu n
      cases e.symm.trans hafter
      exact absurd hv not_operational
end

section
/-! PROOFS. `reset()` and the end of a Faulted core (70_reset_and_hazards.md R300, 10_state.md R31). -/

open Sys2Proof Sys2Proof.Machine

/-- Settles O10: `reset()` copies the bus's fields, which are all that its answers rest on; a Faulted core answers its fault,
or refuses. -/
theorem resetKeepsTheBus : Obligations.ResetKeepsTheBus := by
  intro s t
  refine ⟨rfl, fun _ => ⟨rfl, rfl⟩, fun _ => rfl, rfl, rfl, rfl, rfl, rfl, rfl, rfl, rfl, rfl, rfl, fun f hf => ⟨?_, ?_⟩⟩
  · rw [step_faulted hf]
    exact fun _ => nofun
  · have stopped : s.run ≠ .running := by rw [hf]; exact nofun
    rw [hostStep_refused stopped]
    exact fun _ => nofun
end
